-- ==== Sys2Proof/Word.lean ====
section
/-! DEFINITION. The widths of UTX's values (spec/00_scope.md section 5 and rule R4: every value is an unsigned
binary integer of its stated width, bit 0 least significant). -/

namespace Sys2Proof

/-- DATA_WIDTH: a register, and a bus datum (00_scope.md section 5). -/
abbrev Byte := BitVec 8

/-- A register offset, 0..7 (20_memory.md R26). -/
abbrev Offset := BitVec 3

/-- A bus-request word (30_encoding.md R35). -/
abbrev BusWord := BitVec 12

/-- A divisor as software computes and commits it (00_scope.md section 5, DIV_INPUT_BITS). -/
abbrev Divisor := BitVec 16

/-- A divisor as the divider counts with it (00_scope.md section 5, DIV_BITS). -/
abbrev EffDivisor := BitVec 12

end Sys2Proof
end

