-- ==== Sys2Proof/Config.lean ====
section
/-! DEFINITION. What the spec leaves to the implementation or to a free choice (spec/00_scope.md section 5;
spec/93_implementation_defined.md). Each open value is an opaque constant, so nothing in Lean can evaluate it and a
proof holds for every value of it. -/

namespace Sys2Proof

/-- The three agents whose steps interleave (00_scope.md R3). -/
inductive Agent where
  /-- The only bus master: one host statement, so at most one register access, per step. -/
  | host
  /-- One cycle of UTX's input clock per step. -/
  | clock
  /-- A change of the inputs RXC and RXDATA. -/
  | env
deriving DecidableEq, Repr, Inhabited

namespace Config

/-- OOR_DIV: the effective divisor of a committed divisor above 0x0FFF, any total function (R61; U1). DESIGN CHOICE,
log 6, safe. -/
opaque oorDiv : Divisor → EffDivisor

/-- The 16-bit value of a formula result D above 65535 is 0x1000 plus this: R63 says only that the committed value is
above 0x0FFF, and D25 settles only a negative result. DESIGN CHOICE, log 25, safe. -/
opaque oversizeDivisor : Nat → Fin 0xF000

/-- OS_INIT: the oversample counter at reset, any value in 0..15 (R20; U5). DESIGN CHOICE, log 4, safe. -/
opaque osInit : BitVec 4

/-- RXC at reset, ENV's value (R22; U7). DESIGN CHOICE, log 5, safe. -/
opaque rxcAtReset : Bool

/-- RXDATA at reset, ENV's value (R22; U7). DESIGN CHOICE, log 5, safe. -/
opaque rxdataAtReset : Byte

/-- The RXC that ENV's step number `n` of the draw counter drives (R22; U7). DESIGN CHOICE, log 5, safe. -/
opaque drawRxc : Nat → Bool

/-- The RXDATA that ENV's step number `n` of the draw counter drives (R22; U7). DESIGN CHOICE, log 5, safe. -/
opaque drawRxdata : Nat → Byte

/-- `draw_bit()`: the value of a bit driven while GARBLE = 1 (R5, R72; U2). DESIGN CHOICE, log 7, safe. -/
opaque drawBit : Nat → Bool

/-- The agent that takes the first step after reset (R3: any interleaving). DESIGN CHOICE, log 1, safe. -/
opaque firstTurn : Agent

/-- The agent that takes a later step (R3, R93: any interleaving). DESIGN CHOICE, log 1, safe. -/
opaque drawTurn : Nat → Agent

/-- F_CLK, the frequency of the input clock in Hz, a positive integer (R62; U15). DESIGN CHOICE, log 18, safe. -/
opaque fClk : ℕ+

/-- BAUD, the target baud rate, a positive integer (R62; U15). DESIGN CHOICE, log 18, safe. -/
opaque baud : ℕ+

/-- UART_BASE, the bus address of register offset 0 (R26; U15). DESIGN CHOICE, log 18, safe. -/
opaque uartBase : Nat

/-- MAIN_DIV, the divisor constant of the source's main loop (R46; U16). DESIGN CHOICE, log 18, safe. -/
opaque mainDiv : Divisor

/-- SLEEP_CYCLES, the main loop's delay in CLOCK cycles (R46; U16). DESIGN CHOICE, log 18, safe. -/
opaque sleepCycles : Nat

/-- MAIN_BYTE, the byte the main loop sends, `'a'` (00_scope.md section 5). -/
def mainByte : Byte := 0x61

/-- OVERSAMPLE: prescaler ticks per bit time (00_scope.md section 5). -/
def oversample : Nat := 16

/-- REG_WINDOW: the number of register offsets decoded (00_scope.md section 5; R26). -/
def regWindow : Nat := 8

end Config

end Sys2Proof
end

