-- ==== Sys2Proof/Machine/HostProgram.lean ====
section
/-! DEFINITION. The statements of HOST's programs (spec/30_encoding.md R41, R42) and the bus words they issue. -/

namespace Sys2Proof.Machine

/-- The registers a statement names (30_encoding.md R41). -/
inductive Reg where
  | divh
  | divl
  | ctrl
  | frame
  | status
  | data
deriving DecidableEq, Repr

/-- A register's offset, 0..5 (20_memory.md R26, 30_encoding.md R41). -/
def Reg.offset : Reg → Offset
  | .divh => 0
  | .divl => 1
  | .ctrl => 2
  | .frame => 3
  | .status => 4
  | .data => 5

/-- One statement of a host program (30_encoding.md R42). Labels are resolved to statement indexes (Assembler.lean).
The last two forms are the model's own (DESIGN CHOICE, log 14, safe): they issue the accesses that the spec describes
and R42's notation cannot spell, that is, a reserved or invalid word and an access wider than one byte. -/
inductive Stmt where
  /-- `wr REG, imm8` (R82). -/
  | wr (r : Reg) (v : Byte)
  /-- `rd REG` (R82). -/
  | rd (r : Reg)
  /-- `poll REG, k`, k in 0..7 (R83). -/
  | poll (r : Reg) (k : Fin 8)
  /-- `delay n` (R84). -/
  | delay (n : Nat)
  /-- `jmp L`, with L resolved to its statement index (R85). -/
  | jmp (target : Nat)
  /-- `halt` (R85). -/
  | halt
  /-- Any 12-bit bus word (R35). -/
  | bus (w : BusWord)
  /-- An access of `extra + 2` bytes at an offset (R28). -/
  | wide (off : Offset) (extra : Nat)
deriving DecidableEq, Repr

/-- The word of `wr REG, v`: 0x800 | (offset(REG) << 8) | v (R41). -/
def wrWord (r : Reg) (v : Byte) : BusWord := 0x800 ||| (r.offset.setWidth 12 <<< 8) ||| v.setWidth 12

/-- The word of `rd REG`: offset(REG) << 8 (R41). -/
def rdWord (r : Reg) : BusWord := r.offset.setWidth 12 <<< 8

end Sys2Proof.Machine
end

