-- ==== Sys2Proof/Machine/State.lean ====
section
/-! DEFINITION. The state of the machine (spec/10_state.md R8, spec/43_host_sequences.md R81), its verdict reasons
(spec/60_exceptions.md R90) and the state right after reset (spec/70_reset_and_hazards.md R100). -/

namespace Sys2Proof.Machine

/-- The fault reasons of R90: the program broke a rule the source's contract implies, or used a cell that holds no
value. All are safe: the machine stops where a chip would go on (R6: both verdicts err toward unprovable). -/
inductive Fault where
  /-- F1 of R90's table, raised by RD_DIVH, RD_DIVL and RD_FRAME while the register is ⊥ (R48, R49, R51), a read that
  R108 forbids; records the offset. Safe. -/
  | unwrittenRead (offset : Offset)
  /-- F2, raised by WR_DATA while TXB_FULL = 1 (R59); records the datum. Safe. -/
  | txOverrun (datum : Byte)
  /-- F3, raised by WR_DATA while DIVQ or FRAME holds no value (R59); records the datum. Safe. -/
  | unconfiguredTransmit (datum : Byte)
deriving DecidableEq, Repr

/-- The refusal reasons of R90: the spec gives the access no meaning. All are safe: the machine stops. -/
inductive Refusal where
  /-- An instruction that has no meaning in the model yet; raised by an arm of exec, and by no arm now. Safe. -/
  | notModelled (mnemonic : String)
  /-- X1, raised by RESERVED, any access at offset 6 or 7 (R60); records the word. Safe. -/
  | reservedOffset (word : BusWord)
  /-- X2, raised by INVALID, a read word with D ≠ 0 (R38); records the word. Safe. -/
  | invalidEncoding (word : BusWord)
  /-- X3, raised by WR_STATUS (R58); records the datum. Safe. -/
  | statusWrite (datum : Byte)
  /-- X4, raised by WR_CTRL and WR_FRAME when a reserved bit is 1 (R56, R57); records offset and datum. Safe. -/
  | reservedBits (offset : Offset) (datum : Byte)
  /-- X5, raised by WR_CTRL when TXEN goes 1 to 0 while not tx_idle (R56); records the datum. Safe. -/
  | txDisableWhileBusy (datum : Byte)
  /-- X6, raised by WR_DATA while TXEN = 0 (R59); records the datum. Safe. -/
  | dataWriteTxDisabled (datum : Byte)
  /-- X7, raised by an access wider than one byte (R28); records the width in bytes. Safe. -/
  | wideAccess (width : Nat)
deriving DecidableEq, Repr

/-- The state: UTX's elements (R8), the verdict marks (R23), HOST's state (R81), and the model's own scheduling data.
`none` in a cell is the spec's ⊥, a state of the spec's own and no bit pattern (R9; log 8). -/
structure State where
  /-- DIVH, or ⊥ (R10). -/
  divh : Option Byte
  /-- DIVL, or ⊥ (R11). -/
  divl : Option Byte
  /-- DIVQ, the committed divisor, or ⊥ (R12). -/
  divq : Option Divisor
  /-- CTRL: RXEN bit 4, TXEN bit 3 (R13). -/
  ctrl : Byte
  /-- FRAME: USBS bit 3, UCSZ bits 2:1; or ⊥ (R14). -/
  frame : Option Byte
  /-- TXB, the transmit buffer, or ⊥ (R17). -/
  txb : Option Byte
  /-- TXB_FULL (R17). -/
  txbFull : Bool
  /-- TSR_Q: the frame bits not yet driven onto TXD, next bit first (R18). -/
  tsrQ : List Bool
  /-- TSR_ACTIVE: a frame bit is on TXD now (R18). -/
  tsrActive : Bool
  /-- TXD, the output line; true is mark (R19, R71). -/
  txd : Bool
  /-- PRESC, the prescaler, or ⊥ (R20). -/
  presc : Option EffDivisor
  /-- OS, the oversample counter (R20). -/
  os : BitVec 4
  /-- GARBLE (R21). -/
  garble : Bool
  /-- RXC, an input driven by ENV (R22). -/
  rxc : Bool
  /-- RXDATA, an input driven by ENV (R22). -/
  rxdata : Byte
  /-- FAULTED (R23). -/
  faulted : Option Fault
  /-- REFUSED (R23). -/
  refused : Option Refusal
  /-- HOST's program (R42, R81), placed from outside the machine (log 12). -/
  program : List Stmt
  /-- HOST's pc, a statement index (R81). -/
  pc : Nat
  /-- HOST's t, the result of the latest read, or ⊥ (R81). -/
  t : Option Byte
  /-- HOST's WAIT (R81). -/
  wait : Nat
  /-- HOST's HALTED (R81). -/
  halted : Bool
  /-- The model's own: the agent that takes the next step (log 1). -/
  turn : Agent
  /-- The model's own: how many free values have been drawn (log 3). -/
  draws : Nat
deriving DecidableEq, Repr

/-- The state right after reset: the reset column of R8, HOST's start values of R100, no program placed (log 12). -/
def State.reset : State where
  divh := none
  divl := none
  divq := none
  ctrl := 0x00
  frame := none
  txb := none
  txbFull := false
  tsrQ := []
  tsrActive := false
  txd := true
  presc := none
  os := Config.osInit
  garble := false
  rxc := Config.rxcAtReset
  rxdata := Config.rxdataAtReset
  faulted := none
  refused := none
  program := []
  pc := 0
  t := none
  wait := 0
  halted := false
  turn := Config.firstTurn
  draws := 0

end Sys2Proof.Machine
end

