-- ==== Sys2Proof/Machine/Ops.lean ====
section
/-! DEFINITION. The shared operations over the state: verdicts (spec/10_state.md R23, spec/40_register_access.md R47),
the idle predicate (R24), the divisor latch (R55, R61), the garble mark (R21), and the steps' bookkeeping.
UTX has no exception entry and no return from one (spec/60_exceptions.md R91, R96): a verdict is what stands there. -/

namespace Sys2Proof.Machine

/-- What an access or a step answers (00_scope.md R6). -/
abbrev Result := Host.Outcome State Fault Refusal

/-- A verdict is recorded: the state is quiescent and not final (R23, R47). -/
def State.marked (s : State) : Bool := s.faulted.isSome || s.refused.isSome

/-- R47 and R65: in a marked state no step is enabled, and the answer is the recorded verdict again; else `r`.
DESIGN CHOICE, log 10, safe. -/
def unlessMarked (s : State) (r : Result) : Result :=
  match s.faulted, s.refused with
  | some f, _ => .fault f
  | none, some x => .refused x
  | none, none => r

/-- The state after an answer, applied only where the answer is a next state. -/
def onNext (r : Result) (f : State → State) : Result :=
  match r with
  | .next s => .next (f s)
  | .fault x => .fault x
  | .refused x => .refused x

/-- R23: the state a run is in after a step that began in `s` and answered `r`. The first Fault records its reason in
FAULTED and the first Refuse in REFUSED, and nothing else changes (R47); a mark is never cleared or replaced. -/
def recordVerdict (s : State) (r : Result) : State :=
  match r with
  | .next s' => s'
  | .fault f => if s.marked then s else { s with faulted := some f }
  | .refused x => if s.marked then s else { s with refused := some x }

/-- The numeric part of a fault's code F1..F3 (R90). -/
def faultCode : Fault → Nat
  | .unwrittenRead _ => 1
  | .txOverrun _ => 2
  | .unconfiguredTransmit _ => 3

/-- The numeric part of a refusal's code X1..X7 (R90); the model's own reason has no code of the spec's. -/
def refusalCode : Refusal → Option Nat
  | .reservedOffset _ => some 1
  | .invalidEncoding _ => some 2
  | .statusWrite _ => some 3
  | .reservedBits _ _ => some 4
  | .txDisableWhileBusy _ => some 5
  | .dataWriteTxDisabled _ => some 6
  | .wideAccess _ => some 7
  | _ => none

/-- `tx_idle` (R24). -/
def State.txIdle (s : State) : Bool := !s.txbFull && s.tsrQ.isEmpty && !s.tsrActive

/-- CTRL.TXEN, bit 3 (R13). -/
def State.txen (s : State) : Bool := s.ctrl.getLsbD 3

/-- CTRL.RXEN, bit 4 (R13). -/
def State.rxen (s : State) : Bool := s.ctrl.getLsbD 4

/-- HOST's t takes the result of a read (R82). -/
def State.setT (s : State) (v : Byte) : State := { s with t := some v }

/-- The DIVH cell takes a byte (R54). -/
def State.setDivh (s : State) (d : Byte) : State := { s with divh := some d }

/-- The DIVL cell takes a byte (R55). -/
def State.setDivl (s : State) (d : Byte) : State := { s with divl := some d }

/-- CTRL takes a byte (R56). -/
def State.setCtrl (s : State) (c : Byte) : State := { s with ctrl := c }

/-- FRAME takes a byte (R57). -/
def State.setFrame (s : State) (d : Byte) : State := { s with frame := some d }

/-- The transmit buffer takes a byte and is full; UDRE then reads 0 (R59). -/
def State.fillTxb (s : State) (d : Byte) : State := { s with txb := some d, txbFull := true }

/-- GARBLE is set where the transmitter is not idle (R21, R54, R55, R57). -/
def State.garbleIfBusy (s : State) : State := { s with garble := s.garble || !s.txIdle }

/-- E, the effective divisor of a committed divisor (R61). -/
def effectiveDivisor (q : Divisor) : EffDivisor :=
  if q.toNat ≤ 0x0FFF then q.extractLsb' 0 12 else Config.oorDiv q

/-- The DIVL write's commit (R55): DIVQ takes {DIVH, D} and PRESC reloads; nothing where DIVH is ⊥. -/
def State.commitDivisor (s : State) (d : Byte) : State :=
  match s.divh with
  | none => s
  | some h => { s with divq := some (h ++ d), presc := some (effectiveDivisor (h ++ d)) }

/-- Reading a register cell: a value goes to HOST's t, and ⊥ raises Fault(UnwrittenRead), as the pseudocode of R48, R49
and R51 says (R9; R90 row F1; 70_reset_and_hazards.md R101, R108; 92_eei_decisions.md D19). -/
def readCell (off : Offset) (cell : Option Byte) (s : State) : Result :=
  match cell with
  | none => .fault (.unwrittenRead off)
  | some v => .next (s.setT v)

/-- HOST moves on to the next statement (R82). -/
def State.nextPc (s : State) : State := { s with pc := s.pc + 1 }

/-- HOST continues at a statement index (R85). -/
def State.setPc (s : State) (n : Nat) : State := { s with pc := n }

/-- HOST waits for `n` CLOCK cycles (R84). -/
def State.setWait (s : State) (n : Nat) : State := { s with wait := n }

/-- HOST stops (R85). -/
def State.halt (s : State) : State := { s with halted := true }

/-- The bit a poll tests in HOST's t (R83); a ⊥ there has no bit set (a read has always just written t). -/
def State.tBit (s : State) (k : Fin 8) : Bool :=
  match s.t with
  | some v => v.getLsbD k
  | none => false

/-- R83: a poll moves on only where the tested bit is 1. -/
def State.pollPc (k : Fin 8) (s : State) : State := if s.tBit k then s.nextPc else s

/-- The next step's agent is a free value (R3, R93; DESIGN CHOICE, log 1, safe). -/
def State.passTurn (s : State) : State := { s with turn := Config.drawTurn s.draws, draws := s.draws + 1 }

end Sys2Proof.Machine
end

