-- ==== Sys2Proof/Machine/Divider.lean ====
section
/-! DEFINITION. The baud-rate clock divider: the divisor formula and the bit time (spec/41_baud_divider.md R62-R64),
and phases 1 and 2 of the clock cycle (R66, R67). -/

namespace Sys2Proof.Machine

/-- D, the integer the divisor formula gives, division toward zero (R62; 92_eei_decisions.md D25). -/
def formulaResult (fClk baud : Nat) : Int := (fClk / (16 * baud) : Nat) - 1

/-- The 16-bit value a formula result is stored as: D itself where it fits, and a negative D modulo 2^16 (R63, D25).
DESIGN CHOICE, log 25, safe: the spec does not say which value a D above 65535 becomes, only that it is above 0x0FFF
(R63), so it is a free value above 0x0FFF. -/
def storedDivisor (d : Int) : Divisor :=
  if d ≤ 0xFFFF then BitVec.ofInt 16 d else BitVec.ofNat 16 (0x1000 + (Config.oversizeDivisor d.toNat).val)

/-- The divisor that software computes from F_CLK and BAUD and passes to initialize (R62, R63). -/
def divisorOf (fClk baud : Nat) : Divisor := storedDivisor (formulaResult fClk baud)

/-- The divisor this machine's clock and baud rate give (R62). -/
def configuredDivisor : Divisor := divisorOf Config.fClk Config.baud

/-- R63: the formula gives a usable divisor. -/
def divisorInRange (fClk baud : Nat) : Bool := decide (16 * baud ≤ fClk) && decide (formulaResult fClk baud ≤ 4095)

/-- T_BIT, the CLOCK cycles of one bit time under effective divisor E: 16 (E + 1) (R64). -/
def bitTime (e : EffDivisor) : Nat := Config.oversample * (e.toNat + 1)

/-- The CLOCK cycle, counted from now, of the next bit tick: the prescaler stands at `p` and reloads from `e`, and the
oversample counter stands at `o` (R66, R67; with `p = e` these are the cycles k (E + 1) of R67). -/
def cyclesToBitTick (e p : EffDivisor) (o : BitVec 4) : Nat := (15 - o.toNat) * (e.toNat + 1) + p.toNat + 1

/-- Phase 1 (R66): the prescaler counts down and reloads from E(DIVQ) at 0; the flag is the p-tick. With PRESC = ⊥
nothing ticks (R68); a reload from E(⊥) is ⊥ (R9, R61). -/
def prescalerPhase (s : State) : State × Bool :=
  match s.presc with
  | none => (s, false)
  | some p =>
    if p = 0#12 then ({ s with presc := s.divq.map effectiveDivisor }, true)
    else ({ s with presc := some (p - 1#12) }, false)

/-- Phase 2 (R67): the oversample counter counts p-ticks modulo 16; the flag is the b-tick, where OS wraps to 0. -/
def oversamplePhase (ptick : Bool) (s : State) : State × Bool :=
  if ptick then ({ s with os := s.os + 1#4 }, decide (s.os + 1#4 = 0#4)) else (s, false)

end Sys2Proof.Machine
end

