-- ==== Sys2Proof/Machine/Flags.lean ====
section
/-! DEFINITION. UTX's two status flags and the STATUS view (spec/10_state.md R15, R25). There are no condition codes. -/

namespace Sys2Proof.Machine

/-- UDRE, the transmit-buffer-empty flag: 1 - TXB_FULL (R15, R17). -/
def State.udre (s : State) : Bool := !s.txbFull

/-- STATUS as a read returns it: (RXC << 7) | (UDRE << 5), other bits 0 (R15, R52). -/
def State.statusByte (s : State) : Byte :=
  ((BitVec.ofBool s.rxc).setWidth 8 <<< 7) ||| ((BitVec.ofBool s.udre).setWidth 8 <<< 5)

end Sys2Proof.Machine
end

