-- ==== Sys2Proof/Machine/Operands.lean ====
section
/-! DEFINITION. The operand forms: the fields of CTRL and FRAME and their reserved bits (spec/10_state.md R13, R14),
the bus addresses of the register window (spec/20_memory.md R26), and the split of a divisor (R27). -/

namespace Sys2Proof.Machine

/-- The reserved bits of CTRL, 7:5 and 2:0 (R13, R56). -/
def ctrlReserved : Byte := 0xE7

/-- The reserved bits of FRAME, 7:4 and 0 (R14, R57). -/
def frameReserved : Byte := 0xF1

/-- A CTRL value from its two fields: {RXEN, TXEN} << 3 (R50). -/
def ctrlByte (rxen txen : Bool) : Byte := (BitVec.ofBool rxen ++ BitVec.ofBool txen).setWidth 8 <<< 3

/-- n, the number of data bits a FRAME value selects: 5 + UCSZ (R14, R70). -/
def dataBits (f : Byte) : Nat := 5 + (f.extractLsb' 1 2).toNat

/-- s, the number of stop bits a FRAME value selects: 1 + USBS (R14, R70). -/
def stopBits (f : Byte) : Nat := 1 + (f.extractLsb' 3 1).toNat

/-- The bus address of a register offset: UART_BASE + zext(A) (30_encoding.md R36). -/
def busAddress (a : Offset) : Nat := Config.uartBase + a.toNat

/-- The offset a bus address selects, where the address lies in the window UART_BASE + 0 .. UART_BASE + 7 (R26). -/
def decodeAddress (addr : Nat) : Option Offset :=
  if Config.uartBase ≤ addr ∧ addr < Config.uartBase + Config.regWindow then
    some (BitVec.ofNat 3 (addr - Config.uartBase))
  else none

/-- The byte a divisor sends to DIVH: D >> 8 (R27). -/
def divisorHigh (d : Divisor) : Byte := d.extractLsb' 8 8

/-- The byte a divisor sends to DIVL: D & 0xFF (R27). -/
def divisorLow (d : Divisor) : Byte := d.extractLsb' 0 8

end Sys2Proof.Machine
end

