-- ==== Sys2Proof/Machine/Transmit.lean ====
section
/-! DEFINITION. The frame and phases 3 to 5 of the clock cycle (spec/42_transmit_shift.md R70-R74). -/

namespace Sys2Proof.Machine

/-- FrameBits(b, f): start bit 0, the n low data bits of b from bit 0 up, s stop bits 1, in line order (R70, R71). -/
def frameBits (b f : Byte) : List Bool :=
  false :: ((List.range (dataBits f)).map b.getLsbD ++ List.replicate (stopBits f) true)

/-- The value a bit tick puts on TXD for the frame bit `x`: a draw while GARBLE = 1, else `x` (R72; the draw is a free
value, log 7). -/
def State.lineValue (s : State) (x : Bool) : Bool := if s.garble then Config.drawBit s.draws else x

/-- Phase 3 (R72): a bit tick drives the next frame bit, or ends the last one and returns the line to mark. The draw
counter advances where a bit is drawn (log 3). -/
def shiftPhase (btick : Bool) (s : State) : State :=
  if btick then
    match s.tsrQ with
    | x :: rest =>
      { s with tsrQ := rest, tsrActive := true, txd := s.lineValue x,
               draws := if s.garble then s.draws + 1 else s.draws }
    | [] => { s with tsrActive := false, txd := true }
  else s

/-- Phase 4 (R73): the buffered byte moves into the shift register as soon as no bit is left to drive. TXB and FRAME
hold values whenever TXB_FULL = 1 in a state a run reaches (R59); with a ⊥ there nothing loads (log 16). -/
def loadPhase (s : State) : State :=
  if s.txen = true ∧ s.txbFull = true ∧ s.tsrQ = [] then
    match s.txb, s.frame with
    | some b, some f => { s with tsrQ := frameBits b f, txbFull := false }
    | _, _ => s
  else s

/-- Phase 5 (R74): GARBLE is cleared when the transmitter is idle. -/
def garblePhase (s : State) : State := if s.txIdle then { s with garble := false } else s

end Sys2Proof.Machine
end

