-- ==== Sys2Proof/Machine/Clock.lean ====
section
/-! DEFINITION. One CLOCK step (spec/41_baud_divider.md R65) and ENV's step (spec/10_state.md R22). -/

namespace Sys2Proof.Machine

/-- R84: at the end of every CLOCK cycle WAIT counts down, if it is not 0. -/
def State.countWait (s : State) : State := { s with wait := s.wait - 1 }

/-- The five phases of R65 in their order, then HOST's WAIT (R84). -/
def clockCycle (s : State) : State :=
  let p := prescalerPhase s
  let b := oversamplePhase p.2 p.1
  (garblePhase (loadPhase (shiftPhase b.2 b.1))).countWait

/-- `n` CLOCK cycles with no other agent between them. -/
def clockCycles : Nat → State → State
  | 0, s => s
  | n + 1, s => clockCycles n (clockCycle s)

/-- One ENV step: RXC and RXDATA take any values (R22; free values, log 5). -/
def envChange (s : State) : State :=
  { s with rxc := Config.drawRxc s.draws, rxdata := Config.drawRxdata s.draws }

end Sys2Proof.Machine
end

