-- ==== Sys2Proof/Syntax.lean ====
section
/-! DEFINITION. The instructions of UTX: one constructor per row of spec/opcode_table.json (spec/30_encoding.md R37).
An instruction is one register access of HOST (00_scope.md R2). -/

namespace Sys2Proof

/-- A decoded bus word. The last two rows of the table spell no access; they keep the fields they were read from,
because the refusal they raise records the word (60_exceptions.md R90, X1 and X2). -/
inductive Instr where
  /-- RD_DIVH, word 0x000 (R48). -/
  | rdDivh
  /-- RD_DIVL, word 0x100 (R49). -/
  | rdDivl
  /-- RD_CTRL, word 0x200 (R50). -/
  | rdCtrl
  /-- RD_FRAME, word 0x300 (R51). -/
  | rdFrame
  /-- RD_STATUS, word 0x400 (R52). -/
  | rdStatus
  /-- RD_DATA, word 0x500 (R53). -/
  | rdData
  /-- WR_DIVH, words 0x800-0x8FF (R54). -/
  | wrDivh (d : Byte)
  /-- WR_DIVL, words 0x900-0x9FF (R55). -/
  | wrDivl (d : Byte)
  /-- WR_CTRL, words 0xA00-0xAFF (R56). -/
  | wrCtrl (d : Byte)
  /-- WR_FRAME, words 0xB00-0xBFF (R57). -/
  | wrFrame (d : Byte)
  /-- WR_STATUS, words 0xC00-0xCFF (R58). -/
  | wrStatus (d : Byte)
  /-- WR_DATA, words 0xD00-0xDFF (R59). -/
  | wrData (d : Byte)
  /-- RESERVED, any word with A = 6 or A = 7 (R39, R60). -/
  | reserved (w : BitVec 1) (a : Offset) (d : Byte)
  /-- INVALID, a read word with A in 0..5 and D ≠ 0 (R38). -/
  | invalid (a : Offset) (d : Byte)
deriving DecidableEq, Repr

end Sys2Proof
end

