-- ==== Sys2Proof/WellFormed.lean ====
section
/-! DEFINITION. Which instruction terms stand for a bus word: the conditions of spec/30_encoding.md R37, rows 1 and 2. -/

namespace Sys2Proof

/-- RESERVED carries an offset of 6 or 7; INVALID carries an offset of 0..5 and a nonzero datum (R37). Every other
term is well formed: a read has no operand, and a write's datum is any byte (R36). -/
def Instr.wellFormed : Instr → Bool
  | .rdDivh => true
  | .rdDivl => true
  | .rdCtrl => true
  | .rdFrame => true
  | .rdStatus => true
  | .rdData => true
  | .wrDivh _ => true
  | .wrDivl _ => true
  | .wrCtrl _ => true
  | .wrFrame _ => true
  | .wrStatus _ => true
  | .wrData _ => true
  | .reserved _ a _ => decide (6 ≤ a.toNat)
  | .invalid a d => decide (a.toNat ≤ 5) && decide (d ≠ 0#8)

end Sys2Proof
end

