-- ==== Sys2Proof/Decode.lean ====
section
/-! DEFINITION. The decoder of spec/30_encoding.md R37 (total on 12-bit words; the words that spell no access are
decoded to RESERVED or INVALID by name), and the encoder written from R35. -/

namespace Sys2Proof

/-- Field W, bit 11: 1 for a write, 0 for a read (R35). -/
def fieldW (w : BusWord) : BitVec 1 := w.extractLsb' 11 1

/-- Field A, bits 10:8: the register offset (R35). -/
def fieldA (w : BusWord) : Offset := w.extractLsb' 8 3

/-- Field D, bits 7:0: the datum of a write (R35). -/
def fieldD (w : BusWord) : Byte := w.extractLsb' 0 8

/-- Rows 3-8 of R37: the read at an offset 0..5. Offsets 6 and 7 are row 1's, which is tested first. -/
def readAt (a : Offset) : Instr :=
  match a.toNat with
  | 0 => .rdDivh
  | 1 => .rdDivl
  | 2 => .rdCtrl
  | 3 => .rdFrame
  | 4 => .rdStatus
  | 5 => .rdData
  | _ => .reserved 0 a 0

/-- Rows 9-14 of R37: the write at an offset 0..5. Offsets 6 and 7 are row 1's, which is tested first. -/
def writeAt (a : Offset) (d : Byte) : Instr :=
  match a.toNat with
  | 0 => .wrDivh d
  | 1 => .wrDivl d
  | 2 => .wrCtrl d
  | 3 => .wrFrame d
  | 4 => .wrStatus d
  | 5 => .wrData d
  | _ => .reserved 1 a d

/-- The decoder of R37: rows 1 and 2 in their order, then the reads and the writes. -/
def decode (w : BusWord) : Instr :=
  if 6 ≤ (fieldA w).toNat then .reserved (fieldW w) (fieldA w) (fieldD w)
  else if fieldW w = 0#1 ∧ fieldD w ≠ 0#8 then .invalid (fieldA w) (fieldD w)
  else if fieldW w = 0#1 then readAt (fieldA w)
  else writeAt (fieldA w) (fieldD w)

/-- The word with fields W, A and D (R35). -/
def packWord (w : BitVec 1) (a : Offset) (d : Byte) : BusWord := w ++ a ++ d

/-- The word of an instruction, from the word column of R37. -/
def encode : Instr → BusWord
  | .rdDivh => 0x000
  | .rdDivl => 0x100
  | .rdCtrl => 0x200
  | .rdFrame => 0x300
  | .rdStatus => 0x400
  | .rdData => 0x500
  | .wrDivh d => packWord 1 0 d
  | .wrDivl d => packWord 1 1 d
  | .wrCtrl d => packWord 1 2 d
  | .wrFrame d => packWord 1 3 d
  | .wrStatus d => packWord 1 4 d
  | .wrData d => packWord 1 5 d
  | .reserved w a d => packWord w a d
  | .invalid a d => packWord 0 a d

/-- The bus word whose bits are the low `nbits` bits of `w`; none where a bit above bit 11 is set, because a bus word
has 12 bits and no other form (R35, R40; log 15). -/
def tableWord (nbits w : Nat) : Option BusWord :=
  if w % 2 ^ nbits < 2 ^ 12 then some (BitVec.ofNat 12 (w % 2 ^ nbits)) else none

/-- The instruction the decoder reads from a word numbered as spec/opcode_table.json numbers it. -/
def decodeTableWord (nbits w : Nat) : Option Instr := (tableWord nbits w).map decode

end Sys2Proof
end

