-- ==== Sys2Proof/Machine/NoAccess.lean ====
section
/-! DEFINITION. The bus requests that reach no register: the reserved offsets (spec/40_register_access.md R60), the
invalid reads (spec/30_encoding.md R38) and the accesses wider than one byte (spec/20_memory.md R28). -/

namespace Sys2Proof.Machine

/-- RESERVED: an access at offset 6 or 7, always refused (R39, R60); the word is recorded (R90). -/
def execReserved (w : BitVec 1) (a : Offset) (d : Byte) (s : State) : Result :=
  unlessMarked s (.refused (.reservedOffset (encode (.reserved w a d))))

/-- INVALID: a read word with a nonzero D field, always refused (R38); the word is recorded (R90). -/
def execInvalid (a : Offset) (d : Byte) (s : State) : Result :=
  unlessMarked s (.refused (.invalidEncoding (encode (.invalid a d))))

/-- An access of `width` bytes, wider than one: it has no bus word and is refused before any decoding (R28, R92). -/
def wideAccess (width : Nat) (s : State) : Result := unlessMarked s (.refused (.wideAccess width))

end Sys2Proof.Machine
end

