-- ==== Sys2Proof/Machine/Reads.lean ====
section
/-! DEFINITION. The read accesses (spec/40_register_access.md R48-R53). A read's result goes to HOST's t (R82). -/

namespace Sys2Proof.Machine

/-- RD_DIVH (R48). -/
def execRdDivh (s : State) : Result := unlessMarked s (readCell 0 s.divh s)

/-- RD_DIVL (R49). -/
def execRdDivl (s : State) : Result := unlessMarked s (readCell 1 s.divl s)

/-- RD_CTRL (R50). -/
def execRdCtrl (s : State) : Result := unlessMarked s (.next (s.setT (ctrlByte s.rxen s.txen)))

/-- RD_FRAME (R51). -/
def execRdFrame (s : State) : Result := unlessMarked s (readCell 3 s.frame s)

/-- RD_STATUS (R52). -/
def execRdStatus (s : State) : Result := unlessMarked s (.next (s.setT s.statusByte))

/-- RD_DATA: the read path is RXDATA, never TXB (R53). -/
def execRdData (s : State) : Result := unlessMarked s (.next (s.setT s.rxdata))

end Sys2Proof.Machine
end

