-- ==== Sys2Proof/Machine/Writes.lean ====
section
/-! DEFINITION. The write accesses (spec/40_register_access.md R54-R59). Every check comes before any write (R47). -/

namespace Sys2Proof.Machine

/-- WR_DIVH (R54). -/
def execWrDivh (d : Byte) (s : State) : Result := unlessMarked s (.next (s.garbleIfBusy.setDivh d))

/-- WR_DIVL, which commits the divisor (R55). -/
def execWrDivl (d : Byte) (s : State) : Result :=
  unlessMarked s (.next ((s.garbleIfBusy.commitDivisor d).setDivl d))

/-- WR_CTRL (R56). -/
def execWrCtrl (d : Byte) (s : State) : Result :=
  unlessMarked s <|
    if d &&& ctrlReserved ≠ 0#8 then .refused (.reservedBits 2 d)
    else if d.getLsbD 3 = false ∧ s.txen = true ∧ s.txIdle = false then .refused (.txDisableWhileBusy d)
    else .next (s.setCtrl (ctrlByte (d.getLsbD 4) (d.getLsbD 3)))

/-- WR_FRAME (R57). -/
def execWrFrame (d : Byte) (s : State) : Result :=
  unlessMarked s <|
    if d &&& frameReserved ≠ 0#8 then .refused (.reservedBits 3 d)
    else .next (s.garbleIfBusy.setFrame d)

/-- WR_STATUS, a write to the read-only register: always refused (R58). -/
def execWrStatus (d : Byte) (s : State) : Result := unlessMarked s (.refused (.statusWrite d))

/-- WR_DATA, which fills the transmit buffer; the checks in R59's order (R92: X6, F3, F2). -/
def execWrData (d : Byte) (s : State) : Result :=
  unlessMarked s <|
    if s.txen = false then .refused (.dataWriteTxDisabled d)
    else if s.divq = none ∨ s.frame = none then .fault (.unconfiguredTransmit d)
    else if s.txbFull = true then .fault (.txOverrun d)
    else .next (s.fillTxb d)

end Sys2Proof.Machine
end

