-- ==== Sys2Proof/Machine/Dispatch.lean ====
section
/-! DEFINITION. The dispatch of a decoded access to its meaning (spec/40_register_access.md R47). -/

namespace Sys2Proof.Machine

def exec (i : Instr) (s : State) : Host.Outcome State Fault Refusal :=
  match i with
  | .rdDivh => Sys2Proof.Machine.execRdDivh s
  | .rdDivl => Sys2Proof.Machine.execRdDivl s
  | .rdCtrl => Sys2Proof.Machine.execRdCtrl s
  | .rdFrame => Sys2Proof.Machine.execRdFrame s
  | .rdStatus => Sys2Proof.Machine.execRdStatus s
  | .rdData => Sys2Proof.Machine.execRdData s
  | .wrDivh d => Sys2Proof.Machine.execWrDivh d s
  | .wrDivl d => Sys2Proof.Machine.execWrDivl d s
  | .wrCtrl d => Sys2Proof.Machine.execWrCtrl d s
  | .wrFrame d => Sys2Proof.Machine.execWrFrame d s
  | .wrStatus d => Sys2Proof.Machine.execWrStatus d s
  | .wrData d => Sys2Proof.Machine.execWrData d s
  | .reserved w a d => Sys2Proof.Machine.execReserved w a d s
  | .invalid a d => Sys2Proof.Machine.execInvalid a d s

end Sys2Proof.Machine
end

