-- ==== Sys2Proof/Machine/HostStep.lean ====
section
/-! DEFINITION. One HOST step (spec/43_host_sequences.md R81-R85). -/

namespace Sys2Proof.Machine

/-- One access with the bus word `w`: decode, then the access's rule (40_register_access.md R47). -/
def issue (w : BusWord) (s : State) : Result := exec (decode w) s

/-- One statement (R82-R85). Where its access raises a verdict, pc does not advance (R82). -/
def runStmt (st : Stmt) (s : State) : Result :=
  match st with
  | .wr r v => onNext (issue (wrWord r v) s) State.nextPc
  | .rd r => onNext (issue (rdWord r) s) State.nextPc
  | .poll r k => onNext (issue (rdWord r) s) (State.pollPc k)
  | .delay n => .next (s.nextPc.setWait n)
  | .jmp target => .next (s.setPc target)
  | .halt => .next s.halt
  | .bus w => onNext (issue w s) State.nextPc
  | .wide _ extra => wideAccess (extra + 2) s

/-- HOST's step is enabled (R81; the verdict marks are checked by the step). -/
def State.hostReady (s : State) : Bool := !s.halted && decide (s.wait = 0)

/-- HOST's turn (R81, R85): the statement at pc; past the last statement HOST halts. Where HOST has no step, its turn
passes with nothing done (log 2). -/
def hostStep (s : State) : Result :=
  if s.hostReady then
    match s.program[s.pc]? with
    | some st => runStmt st s
    | none => .next s.halt
  else .next s

end Sys2Proof.Machine
end

