-- ==== Sys2Proof/Machine/Step.lean ====
section
/-! DEFINITION. One step of the machine: one agent's step (spec/00_scope.md R3, spec/60_exceptions.md R93). -/

namespace Sys2Proof.Machine

/-- One step: the agent whose turn it is acts, then the next turn is drawn. In a marked state no agent has a step, and
the answer is the recorded verdict (R23, R47, R65). -/
def step (s : State) : Host.Outcome State Fault Refusal :=
  unlessMarked s <|
    match s.turn with
    | .host => onNext (hostStep s) State.passTurn
    | .clock => .next (clockCycle s).passTurn
    | .env => .next (envChange s).passTurn

/-- `s` with one bus word placed so that the very next step issues it: HOST's program is that one access, HOST stands
at it and is ready, and it is HOST's turn (log 13). A number that is no 12-bit word places nothing (log 15). -/
def State.withFetchWord (s : State) (nbits w : Nat) : State :=
  { s with
    program := match tableWord nbits w with
      | some word => [.bus word]
      | none => []
    pc := 0
    wait := 0
    halted := false
    turn := .host }

end Sys2Proof.Machine
end

