-- ==== Sys2Proof/Machine/Sequences.lean ====
section
/-! DEFINITION. The source's driver operations as statement lists (spec/30_encoding.md R43-R46). -/

namespace Sys2Proof.Machine

/-- `init D` (R43): DIVH, DIVL, CTRL = 0x18, FRAME = 0x0E, in this order. -/
def initSeq (d : Divisor) : List Stmt :=
  [.wr .divh (divisorHigh d), .wr .divl (divisorLow d), .wr .ctrl 0x18, .wr .frame 0x0E]

/-- `tx b` (R44): poll UDRE, then write DATA. -/
def txSeq (b : Byte) : List Stmt := [.poll .status 5, .wr .data b]

/-- `rx` (R45): poll RXC, then read DATA. -/
def rxSeq : List Stmt := [.poll .status 7, .rd .data]

/-- `main` (R46), a whole program; its label `loop` is statement 4. -/
def mainProgram : List Stmt :=
  initSeq Config.mainDiv ++ txSeq Config.mainByte ++ [.delay Config.sleepCycles, .jmp 4]

end Sys2Proof.Machine
end

