-- ==== Sys2Proof/Machine/Assembler.lean ====
section
/-! DEFINITION. Host programs as they are written (spec/30_encoding.md R41-R46): optional labels, numeric operands that
may be out of range, and the pseudo-instructions; and their assembly into statements. -/

namespace Sys2Proof.Machine

/-- A written statement (R42), with the pseudo-instructions of R43-R45. -/
inductive Written where
  | wr (r : Reg) (imm : Nat)
  | rd (r : Reg)
  | poll (r : Reg) (k : Nat)
  | delay (n : Nat)
  | jmp (label : String)
  | halt
  | init (d : Nat)
  | tx (b : Nat)
  | rx
deriving DecidableEq, Repr

/-- A line: an optional label and a statement (R42). -/
structure Line where
  label : Option String
  stmt : Written
deriving DecidableEq, Repr

/-- How many statements a written statement assembles to (R43-R45). -/
def Written.size : Written → Nat
  | .init _ => 4
  | .tx _ => 2
  | .rx => 2
  | .wr _ _ => 1
  | .rd _ => 1
  | .poll _ _ => 1
  | .delay _ => 1
  | .jmp _ => 1
  | .halt => 1

/-- index(L): the statement index of the first line labelled `l`, where the first line stands at `base` (R81, R85). A
label that stands twice means its first line (DESIGN CHOICE, log 23, safe). -/
def labelIndex (l : String) : List Line → Nat → Option Nat
  | [], _ => none
  | x :: rest, base => if x.label = some l then some base else labelIndex l rest (base + x.stmt.size)

/-- One written statement; none is an assembly error: a number outside its range (R41, R42), a label no line carries. -/
def assembleStmt (prog : List Line) : Written → Option (List Stmt)
  | .wr r imm => if imm < 256 then some [.wr r (BitVec.ofNat 8 imm)] else none
  | .rd r => some [.rd r]
  | .poll r k => if h : k < 8 then some [.poll r ⟨k, h⟩] else none
  | .delay n => some [.delay n]
  | .jmp l => (labelIndex l prog 0).map fun n => [.jmp n]
  | .halt => some [.halt]
  | .init d => if d < 65536 then some (initSeq (BitVec.ofNat 16 d)) else none
  | .tx b => if b < 256 then some (txSeq (BitVec.ofNat 8 b)) else none
  | .rx => some rxSeq

/-- The lines that follow, with labels of the whole program `prog`. -/
def assembleLines (prog : List Line) : List Line → Option (List Stmt)
  | [] => some []
  | x :: rest =>
    match assembleStmt prog x.stmt, assembleLines prog rest with
    | some a, some b => some (a ++ b)
    | _, _ => none

/-- A whole program (R42). -/
def assemble (prog : List Line) : Option (List Stmt) := assembleLines prog prog

/-- `main` as R46 writes it, MAIN_DIV and SLEEP_CYCLES as arguments. -/
def mainLines (mainDiv sleepCycles : Nat) : List Line :=
  [⟨none, .init mainDiv⟩, ⟨some "loop", .tx 0x61⟩, ⟨none, .delay sleepCycles⟩, ⟨none, .jmp "loop"⟩]

end Sys2Proof.Machine
end

