-- ==== Sys2Proof/Machine/Run.lean ====
section
/-! DEFINITION. Runs: how a verdict is recorded (spec/10_state.md R23), the states of a run, and the fairness of CLOCK
(spec/00_scope.md R3). -/

namespace Sys2Proof.Machine

/-- The state a run is in after one more step: the next state, or, where the step raises a verdict, the same state with
the reason recorded (R23, R47). A marked state stays as it is. -/
def advance (s : State) : State := recordVerdict s (step s)

/-- The state after one bus access alone, a verdict recorded (R23, R47). -/
def advanceAccess (i : Instr) (s : State) : State := recordVerdict s (exec i s)

/-- The state of the run from `s` after `n` steps. -/
def runFrom (s : State) : Nat → State
  | 0 => s
  | n + 1 => advance (runFrom s n)

/-- The run from `s` is infinite: no verdict is ever recorded in it, so no state of it is quiescent (R23, R47). -/
def InfiniteRun (s : State) : Prop := ∀ n, (runFrom s n).marked = false

/-- CLOCK is weakly fair in the run from `s`: if the run is infinite, CLOCK steps infinitely often in it (R3). It asks
nothing of a run that a verdict ends. A premise for claims about what happens eventually; the machine does not enforce
it (log 21). -/
def ClockFair (s : State) : Prop := InfiniteRun s → ∀ n, ∃ m, n ≤ m ∧ (runFrom s m).turn = .clock

end Sys2Proof.Machine
end

