-- ==== Sys2Proof/Safety.lean ====
section
/-! DEFINITION. What counts as a safe run, in the terms claims use: no verdict (spec/10_state.md R23), the states a run
can be in (an invariant), and when HOST is done (spec/43_host_sequences.md R85). -/

namespace Sys2Proof.Safety

open Sys2Proof.Machine

/-- No Fault and no Refuse has been recorded (R23). -/
def Unmarked (s : State) : Prop := s.faulted = none ∧ s.refused = none

/-- The run from `s` never raises a verdict: no step of it faults or is refused, so the
run is infinite (R47). -/
def SafeRun (s : State) : Prop := InfiniteRun s

/-- R85 and R6: HOST is halted, the transmitter is idle, and no verdict is recorded. -/
def FinalForHost (s : State) : Prop := s.halted = true ∧ s.txIdle = true ∧ Unmarked s

/-- The invariant of the machine: what the rules say of every state a run reaches. -/
structure MachineInv (s : State) : Prop where
  /-- CTRL's reserved bits are 0 (R13). -/
  ctrlReserved : s.ctrl &&& ctrlReserved = 0#8
  /-- FRAME's reserved bits are 0 (R14). -/
  frameReserved : ∀ f, s.frame = some f → f &&& frameReserved = 0#8
  /-- PRESC holds a value exactly where DIVQ does (R68). -/
  prescWithDivq : s.presc.isSome = s.divq.isSome
  /-- PRESC never exceeds E (R66). -/
  prescBound : ∀ q p, s.divq = some q → s.presc = some p → p.toNat ≤ (effectiveDivisor q).toNat
  /-- DIVQ holds a value only after both halves were written (R12). -/
  divqAfterHalves : s.divq.isSome = true → s.divh.isSome = true ∧ s.divl.isSome = true
  /-- A full buffer holds a byte (R17, R59). -/
  fullHoldsByte : s.txbFull = true → s.txb.isSome = true
  /-- A transmitter that is not idle is configured (R59, R73). -/
  busyConfigured : s.txIdle = false → s.frame.isSome = true ∧ s.divq.isSome = true
  /-- TSR_Q holds at most 11 bits (R18). -/
  shiftLength : s.tsrQ.length ≤ 11
  /-- TXEN = 0 comes with an idle transmitter (R75). -/
  disabledIdle : s.txen = false → s.txIdle = true
  /-- TXD is at mark whenever no frame bit is being driven (R75). -/
  quietLineMark : s.tsrActive = false → s.txd = true
  /-- GARBLE is 1 only while the transmitter is not idle (R21, R74). -/
  garbleWhileBusy : s.garble = true → s.txIdle = false

end Sys2Proof.Safety
end

