-- ==== Sys2Proof/Certificates/Slice0/Obligations.lean ====
section
/-! DEFINITION. The statements for the provers. Each names the rule or section of spec/ it formalises; a statement that
the spec itself marks as derived, or that rests on a choice of the model's, says so. -/

open Sys2Proof Sys2Proof.Machine Sys2Proof.Safety

/-! ## Encoding -/

/-- Sample words of 95_test_vectors.md Part 2 section 1, each written out from 30_encoding.md R35 and R37. -/
def Obligations.DecodeSampleWords : Prop :=
  decode 0b000000000000 = .rdDivh ∧ decode 0b000000000001 = .invalid 0 0x01 ∧ decode 0b000100000000 = .rdDivl ∧
  decode 0b001000000000 = .rdCtrl ∧ decode 0b001100000000 = .rdFrame ∧ decode 0b010000000000 = .rdStatus ∧
  decode 0b010000100000 = .invalid 4 0x20 ∧ decode 0b010100000000 = .rdData ∧
  decode 0b011000000001 = .reserved 0 6 0x01 ∧ decode 0b011111111111 = .reserved 0 7 0xFF ∧
  decode 0b100000000000 = .wrDivh 0x00 ∧ decode 0b100101011111 = .wrDivl 0x5F ∧
  decode 0b101000011000 = .wrCtrl 0x18 ∧ decode 0b101100001110 = .wrFrame 0x0E ∧
  decode 0b110000100000 = .wrStatus 0x20 ∧ decode 0b110101100001 = .wrData 0x61 ∧
  decode 0b111000000000 = .reserved 1 6 0x00 ∧ decode 0b111111111111 = .reserved 1 7 0xFF

/-- Decoding an encoded well-formed instruction gives it back, for every operand (30_encoding.md R35, R37). -/
def Obligations.DecodeEncodeRoundTrip : Prop := ∀ i : Instr, i.wellFormed = true → decode (encode i) = i

/-- Every 12-bit word decodes to a well-formed instruction whose word it is, so no two rows of R37's table share a word
and no bit of a word is dropped. -/
def Obligations.EncodeDecodeRoundTrip : Prop :=
  ∀ w : BusWord, (decode w).wellFormed = true ∧ encode (decode w) = w

/-- The rows of R37's table, each by its condition on W, A and D. -/
def Obligations.DecodeFollowsTable : Prop :=
  ∀ w : BusWord,
    (w.extractLsb' 8 3 = 6 ∨ w.extractLsb' 8 3 = 7 →
      decode w = .reserved (w.extractLsb' 11 1) (w.extractLsb' 8 3) (w.extractLsb' 0 8)) ∧
    ((w.extractLsb' 8 3).toNat ≤ 5 → w.getLsbD 11 = false → w.extractLsb' 0 8 ≠ 0 →
      decode w = .invalid (w.extractLsb' 8 3) (w.extractLsb' 0 8)) ∧
    (w.getLsbD 11 = true →
      (w.extractLsb' 8 3 = 0 → decode w = .wrDivh (w.extractLsb' 0 8)) ∧
      (w.extractLsb' 8 3 = 1 → decode w = .wrDivl (w.extractLsb' 0 8)) ∧
      (w.extractLsb' 8 3 = 2 → decode w = .wrCtrl (w.extractLsb' 0 8)) ∧
      (w.extractLsb' 8 3 = 3 → decode w = .wrFrame (w.extractLsb' 0 8)) ∧
      (w.extractLsb' 8 3 = 4 → decode w = .wrStatus (w.extractLsb' 0 8)) ∧
      (w.extractLsb' 8 3 = 5 → decode w = .wrData (w.extractLsb' 0 8))) ∧
    decode 0x000 = .rdDivh ∧ decode 0x100 = .rdDivl ∧ decode 0x200 = .rdCtrl ∧ decode 0x300 = .rdFrame ∧
    decode 0x400 = .rdStatus ∧ decode 0x500 = .rdData

/-- R41's words for `wr` and `rd` decode to the access on the register they name, for every register and datum. -/
def Obligations.StatementWordsDecode : Prop :=
  (∀ r v, decode (wrWord r v) =
    match r with
    | .divh => .wrDivh v
    | .divl => .wrDivl v
    | .ctrl => .wrCtrl v
    | .frame => .wrFrame v
    | .status => .wrStatus v
    | .data => .wrData v) ∧
  (∀ r, decode (rdWord r) =
    match r with
    | .divh => .rdDivh
    | .divl => .rdDivl
    | .ctrl => .rdCtrl
    | .frame => .rdFrame
    | .status => .rdStatus
    | .data => .rdData)

/-- R36 and R26: the bus address of an offset selects that offset, and no address outside the window selects any. -/
def Obligations.BusAddressSelectsOffset : Prop :=
  (∀ a, decodeAddress (busAddress a) = some a) ∧
  (∀ addr a, decodeAddress addr = some a → addr = busAddress a) ∧
  (∀ addr, decodeAddress addr = none ↔ ∀ a, addr ≠ busAddress a)

/-! ## The accesses, one rule each -/

/-- R48. -/
def Obligations.RdDivhReadsStoredByte : Prop :=
  decode 0x000 = .rdDivh ∧
  ∀ s, Unmarked s →
    (∀ v, s.divh = some v → exec .rdDivh s = .next { s with t := some v }) ∧
    (s.divh = none → exec .rdDivh s = .fault (.unwrittenRead 0)) ∧
    (∀ v u, exec (.wrDivh v) s = .next u → exec .rdDivh u = .next { u with t := some v })

/-- R49. -/
def Obligations.RdDivlReadsStoredByte : Prop :=
  decode 0x100 = .rdDivl ∧
  ∀ s, Unmarked s →
    (∀ v, s.divl = some v → exec .rdDivl s = .next { s with t := some v }) ∧
    (s.divl = none → exec .rdDivl s = .fault (.unwrittenRead 1)) ∧
    (∀ v u, exec (.wrDivl v) s = .next u → exec .rdDivl u = .next { u with t := some v })

/-- R50: bit 4 is RXEN, bit 3 is TXEN, other bits 0; never a fault. -/
def Obligations.RdCtrlReadsEnables : Prop :=
  decode 0x200 = .rdCtrl ∧
  (∀ s, Unmarked s → ∃ v : Byte, exec .rdCtrl s = .next { s with t := some v } ∧
    v.getLsbD 4 = s.ctrl.getLsbD 4 ∧ v.getLsbD 3 = s.ctrl.getLsbD 3 ∧
    ∀ k, k ≠ 4 → k ≠ 3 → v.getLsbD k = false) ∧
  exec .rdCtrl State.reset = .next { State.reset with t := some 0x00 } ∧
  (∀ s u, Unmarked s → exec (.wrCtrl 0x18) s = .next u → exec .rdCtrl u = .next { u with t := some 0x18 })

/-- R51. -/
def Obligations.RdFrameReadsStoredByte : Prop :=
  decode 0x300 = .rdFrame ∧
  ∀ s, Unmarked s →
    (∀ v, s.frame = some v → exec .rdFrame s = .next { s with t := some v }) ∧
    (s.frame = none → exec .rdFrame s = .fault (.unwrittenRead 3)) ∧
    (∀ v u, exec (.wrFrame v) s = .next u →
      exec .rdFrame u = .next { u with t := some v } ∧ v &&& 0xF1 = 0)

/-- R52: bit 7 is RXC, bit 5 is UDRE = 1 - TXB_FULL, other bits 0; never a fault. -/
def Obligations.RdStatusReadsFlags : Prop :=
  decode 0x400 = .rdStatus ∧
  (∀ s, Unmarked s → ∃ v : Byte, exec .rdStatus s = .next { s with t := some v } ∧
    v.getLsbD 7 = s.rxc ∧ v.getLsbD 5 = !s.txbFull ∧ ∀ k, k ≠ 7 → k ≠ 5 → v.getLsbD k = false) ∧
  (∃ u, exec .rdStatus State.reset = .next u ∧
    u.t = some (0x20 ||| if State.reset.rxc then 0x80 else 0x00)) ∧
  (∀ s u, Unmarked s → exec (.wrData 0x61) s = .next u →
    ∃ v : Byte, exec .rdStatus u = .next { u with t := some v } ∧ v.getLsbD 5 = false)

/-- R53: the value is RXDATA, whatever was written to DATA and whatever RXEN is; nothing else changes. -/
def Obligations.RdDataReadsReceiveInput : Prop :=
  decode 0x500 = .rdData ∧
  ∀ s, Unmarked s →
    exec .rdData s = .next { s with t := some s.rxdata } ∧
    (∀ d u, exec (.wrData d) s = .next u → exec .rdData u = .next { u with t := some s.rxdata })

/-- R54: DIVH takes the byte, the divider does not change, and GARBLE is set exactly where the transmitter is busy. -/
def Obligations.WrDivhStoresByte : Prop :=
  ∀ s d, Unmarked s →
    decode (0x800 ||| d.setWidth 12) = .wrDivh d ∧
    (s.txIdle = true → exec (.wrDivh d) s = .next { s with divh := some d }) ∧
    (s.txIdle = false → exec (.wrDivh d) s = .next { s with divh := some d, garble := true })

/-- R55: DIVL takes the byte; where DIVH holds a value, DIVQ takes {DIVH, D} and PRESC takes E; OS does not change;
GARBLE is set exactly where the transmitter is busy. -/
def Obligations.WrDivlCommitsDivisor : Prop :=
  ∀ s d, Unmarked s →
    decode (0x900 ||| d.setWidth 12) = .wrDivl d ∧
    (∀ h, s.divh = some h →
      exec (.wrDivl d) s = .next
        { s with divl := some d, divq := some (h ++ d), presc := some (effectiveDivisor (h ++ d)),
                 garble := if s.txIdle then s.garble else true }) ∧
    (s.divh = none →
      exec (.wrDivl d) s = .next { s with divl := some d, garble := if s.txIdle then s.garble else true })

/-- R56: the two refusals in their order, and otherwise CTRL takes the datum and nothing else changes. -/
def Obligations.WrCtrlStoresEnables : Prop :=
  ∀ s d, Unmarked s →
    decode (0xA00 ||| d.setWidth 12) = .wrCtrl d ∧
    (d &&& 0xE7 ≠ 0 → exec (.wrCtrl d) s = .refused (.reservedBits 2 d)) ∧
    (d &&& 0xE7 = 0 → d.getLsbD 3 = false → s.ctrl.getLsbD 3 = true → s.txIdle = false →
      exec (.wrCtrl d) s = .refused (.txDisableWhileBusy d)) ∧
    (d &&& 0xE7 = 0 → (d.getLsbD 3 = true ∨ s.ctrl.getLsbD 3 = false ∨ s.txIdle = true) →
      exec (.wrCtrl d) s = .next { s with ctrl := d })

/-- R57: a reserved bit is refused; otherwise FRAME takes the datum, and GARBLE is set exactly where the transmitter is
busy. -/
def Obligations.WrFrameStoresFormat : Prop :=
  ∀ s d, Unmarked s →
    decode (0xB00 ||| d.setWidth 12) = .wrFrame d ∧
    (d &&& 0xF1 ≠ 0 → exec (.wrFrame d) s = .refused (.reservedBits 3 d)) ∧
    (d &&& 0xF1 = 0 → s.txIdle = true → exec (.wrFrame d) s = .next { s with frame := some d }) ∧
    (d &&& 0xF1 = 0 → s.txIdle = false → exec (.wrFrame d) s = .next { s with frame := some d, garble := true })

/-- R58: always refused, for every datum, and nothing but the mark changes. -/
def Obligations.WrStatusAlwaysRefused : Prop :=
  ∀ s d, Unmarked s →
    decode (0xC00 ||| d.setWidth 12) = .wrStatus d ∧
    exec (.wrStatus d) s = .refused (.statusWrite d) ∧
    advanceAccess (.wrStatus d) s = { s with refused := some (.statusWrite d) }

/-- R59: the three checks in their order, and otherwise TXB takes the byte, TXB_FULL is set, and nothing else changes. -/
def Obligations.WrDataFillsBuffer : Prop :=
  ∀ s d, Unmarked s →
    decode (0xD00 ||| d.setWidth 12) = .wrData d ∧
    (s.ctrl.getLsbD 3 = false → exec (.wrData d) s = .refused (.dataWriteTxDisabled d)) ∧
    (s.ctrl.getLsbD 3 = true → (s.divq = none ∨ s.frame = none) →
      exec (.wrData d) s = .fault (.unconfiguredTransmit d)) ∧
    (s.ctrl.getLsbD 3 = true → s.divq ≠ none → s.frame ≠ none → s.txbFull = true →
      exec (.wrData d) s = .fault (.txOverrun d)) ∧
    (s.ctrl.getLsbD 3 = true → s.divq ≠ none → s.frame ≠ none → s.txbFull = false →
      exec (.wrData d) s = .next { s with txb := some d, txbFull := true })

/-- R39 and R60: a word with A = 6 or A = 7 is refused, read or write, and nothing but the mark changes. -/
def Obligations.ReservedOffsetAlwaysRefused : Prop :=
  (∀ s (w : BusWord), Unmarked s → 6 ≤ (w.extractLsb' 8 3).toNat →
    exec (decode w) s = .refused (.reservedOffset w) ∧
    advanceAccess (decode w) s = { s with refused := some (.reservedOffset w) }) ∧
  (∀ s w a d, Unmarked s → exec (.reserved w a d) s = .refused (.reservedOffset (encode (.reserved w a d))))

/-- R38: a read word at an offset 0..5 with D ≠ 0 is refused, and nothing but the mark changes. -/
def Obligations.InvalidReadAlwaysRefused : Prop :=
  (∀ s (w : BusWord), Unmarked s → (w.extractLsb' 8 3).toNat ≤ 5 → w.getLsbD 11 = false → w.extractLsb' 0 8 ≠ 0 →
    exec (decode w) s = .refused (.invalidEncoding w) ∧
    advanceAccess (decode w) s = { s with refused := some (.invalidEncoding w) }) ∧
  (∀ s a d, Unmarked s → exec (.invalid a d) s = .refused (.invalidEncoding (encode (.invalid a d))))

/-! ## The accesses, over all of them -/

/-- Which instructions complete, and where: the conditions of R48-R59 under which an access answers a next state. -/
def Obligations.AccessCompletesExactlyWhere : Prop :=
  ∀ i s, (∃ t, exec i s = .next t) ↔
    Unmarked s ∧
    match i with
    | .rdDivh => s.divh ≠ none
    | .rdDivl => s.divl ≠ none
    | .rdCtrl => True
    | .rdFrame => s.frame ≠ none
    | .rdStatus => True
    | .rdData => True
    | .wrDivh _ => True
    | .wrDivl _ => True
    | .wrCtrl d => d &&& 0xE7 = 0 ∧ (d.getLsbD 3 = true ∨ s.ctrl.getLsbD 3 = false ∨ s.txIdle = true)
    | .wrFrame d => d &&& 0xF1 = 0
    | .wrStatus _ => False
    | .wrData _ => s.ctrl.getLsbD 3 = true ∧ s.divq ≠ none ∧ s.frame ≠ none ∧ s.txbFull = false
    | .reserved _ _ _ => False
    | .invalid _ _ => False

/-- R90: which instruction raises which reason. -/
def Obligations.VerdictsOnlyAsTabled : Prop :=
  ∀ i s, Unmarked s →
    (∀ off, exec i s = .fault (.unwrittenRead off) ↔
      (i = .rdDivh ∧ s.divh = none ∧ off = 0) ∨ (i = .rdDivl ∧ s.divl = none ∧ off = 1) ∨
      (i = .rdFrame ∧ s.frame = none ∧ off = 3)) ∧
    (∀ d, exec i s = .fault (.txOverrun d) →
      i = .wrData d ∧ s.txbFull = true ∧ s.ctrl.getLsbD 3 = true ∧ s.divq ≠ none ∧ s.frame ≠ none) ∧
    (∀ d, exec i s = .fault (.unconfiguredTransmit d) →
      i = .wrData d ∧ s.ctrl.getLsbD 3 = true ∧ (s.divq = none ∨ s.frame = none)) ∧
    (∀ w, exec i s = .refused (.reservedOffset w) → ∃ b a d, i = .reserved b a d) ∧
    (∀ w, exec i s = .refused (.invalidEncoding w) → ∃ a d, i = .invalid a d) ∧
    (∀ d, exec i s = .refused (.statusWrite d) → i = .wrStatus d) ∧
    (∀ off d, exec i s = .refused (.reservedBits off d) →
      (i = .wrCtrl d ∧ off = 2 ∧ d &&& 0xE7 ≠ 0) ∨ (i = .wrFrame d ∧ off = 3 ∧ d &&& 0xF1 ≠ 0)) ∧
    (∀ d, exec i s = .refused (.txDisableWhileBusy d) →
      i = .wrCtrl d ∧ d.getLsbD 3 = false ∧ s.ctrl.getLsbD 3 = true ∧ s.txIdle = false) ∧
    (∀ d, exec i s = .refused (.dataWriteTxDisabled d) → i = .wrData d ∧ s.ctrl.getLsbD 3 = false) ∧
    (∀ n, exec i s ≠ .refused (.wideAccess n)) ∧
    (∀ m, exec i s ≠ .refused (.notModelled m))

/-- R47: an access that raises a Fault or a Refuse changes nothing but FAULTED or REFUSED. -/
def Obligations.RaisingAccessChangesOnlyMark : Prop :=
  ∀ i s, Unmarked s →
    (∀ f, exec i s = .fault f → advanceAccess i s = { s with faulted := some f }) ∧
    (∀ x, exec i s = .refused x → advanceAccess i s = { s with refused := some x })

/-- R92: the order of the checks. A reserved offset comes before a nonzero read datum; WR_CTRL checks X4 then X5;
WR_DATA checks X6, then F3, then F2; a wide access is refused whatever its offset. -/
def Obligations.ChecksRunInOrder : Prop :=
  ∀ s, Unmarked s →
    (∀ off extra, runStmt (.wide off extra) s = .refused (.wideAccess (extra + 2))) ∧
    (∀ w : BusWord, 6 ≤ (w.extractLsb' 8 3).toNat → exec (decode w) s = .refused (.reservedOffset w)) ∧
    (∀ w : BusWord, (w.extractLsb' 8 3).toNat < 6 → w.getLsbD 11 = false → w.extractLsb' 0 8 ≠ 0 →
      exec (decode w) s = .refused (.invalidEncoding w)) ∧
    (∀ d, d &&& 0xE7 ≠ 0 → exec (.wrCtrl d) s = .refused (.reservedBits 2 d)) ∧
    (∀ d, d &&& 0xE7 = 0 → d.getLsbD 3 = false → s.ctrl.getLsbD 3 = true → s.txIdle = false →
      exec (.wrCtrl d) s = .refused (.txDisableWhileBusy d)) ∧
    (∀ d, exec (.wrData d) s =
      if s.ctrl.getLsbD 3 = false then .refused (.dataWriteTxDisabled d)
      else if s.divq = none ∨ s.frame = none then .fault (.unconfiguredTransmit d)
      else if s.txbFull = true then .fault (.txOverrun d)
      else .next { s with txb := some d, txbFull := true })

/-- The frame of every access (R25, R29, R30): the divider's phase, the shift register, the line, ENV's inputs, HOST's
program and control state, and the marks never change; the divisor and the prescaler change only by a DIVL write, CTRL
only by a CTRL write, FRAME only by a FRAME write, DIVH and DIVL only by their own, the buffer only by a DATA write,
GARBLE only by a write of DIVH, DIVL or FRAME, and HOST's t only by a read. -/
def Obligations.AccessFrame : Prop :=
  ∀ i s t, exec i s = .next t →
    (t.os = s.os ∧ t.tsrQ = s.tsrQ ∧ t.tsrActive = s.tsrActive ∧ t.txd = s.txd ∧ t.rxc = s.rxc ∧
      t.rxdata = s.rxdata ∧ t.faulted = s.faulted ∧ t.refused = s.refused ∧ t.program = s.program ∧ t.pc = s.pc ∧
      t.wait = s.wait ∧ t.halted = s.halted ∧ t.turn = s.turn ∧ t.draws = s.draws) ∧
    (t.divh ≠ s.divh → ∃ d, i = .wrDivh d) ∧
    (t.divl ≠ s.divl → ∃ d, i = .wrDivl d) ∧
    (t.divq ≠ s.divq ∨ t.presc ≠ s.presc → ∃ d, i = .wrDivl d) ∧
    (t.ctrl ≠ s.ctrl → ∃ d, i = .wrCtrl d) ∧
    (t.frame ≠ s.frame → ∃ d, i = .wrFrame d) ∧
    (t.txb ≠ s.txb ∨ t.txbFull ≠ s.txbFull → ∃ d, i = .wrData d) ∧
    (t.garble ≠ s.garble → t.garble = true ∧ ∃ d, i = .wrDivh d ∨ i = .wrDivl d ∨ i = .wrFrame d) ∧
    (t.t ≠ s.t → i = .rdDivh ∨ i = .rdDivl ∨ i = .rdCtrl ∨ i = .rdFrame ∨ i = .rdStatus ∨ i = .rdData)

/-- R105: a write of DIVH, DIVL or FRAME while the transmitter is busy sets GARBLE, even of the value already there,
and no such write changes the bits that wait in the shift register. -/
def Obligations.ReconfiguringWhileBusyGarbles : Prop :=
  ∀ s t d i, s.txIdle = false → (i = .wrDivh d ∨ i = .wrDivl d ∨ i = .wrFrame d) → exec i s = .next t →
    t.garble = true ∧ t.tsrQ = s.tsrQ ∧ t.txIdle = false

/-! ## HOST's statements -/

/-- A step runs the decoded instruction. Where HOST's next statement is the bus word `w` (the model's form of a placed
access, log 14), the step is `exec` of the decoded instruction, then HOST moves past the statement and the next turn is
drawn (log 1); a verdict passes through unchanged. -/
def Obligations.StepRunsDecodedWord : Prop :=
  ∀ s w, Unmarked s → s.turn = .host → s.halted = false → s.wait = 0 → s.program[s.pc]? = some (.bus w) →
    step s =
      match exec (decode w) s with
      | .next t => .next { t with pc := s.pc + 1, turn := Config.drawTurn t.draws, draws := t.draws + 1 }
      | .fault f => .fault f
      | .refused x => .refused x

/-- A word placed by withFetchWord runs in the very next step, as the instruction decodeTableWord reads (log 13), and the
next turn is drawn (log 1). -/
def Obligations.PlacedWordRunsNext : Prop :=
  ∀ s nbits w i, Unmarked s → decodeTableWord nbits w = some i →
    step (s.withFetchWord nbits w) =
      match exec i (s.withFetchWord nbits w) with
      | .next t => .next { t with pc := 1, turn := Config.drawTurn t.draws, draws := t.draws + 1 }
      | .fault f => .fault f
      | .refused x => .refused x

/-- R82: `wr` and `rd` perform their access and move on; on a verdict, pc does not advance and the run is quiescent. The
draw of the next turn (passTurn) is the model's own choice, log 1. -/
def Obligations.HostWriteAndRead : Prop :=
  ∀ s st w, Unmarked s → s.turn = .host → s.halted = false → s.wait = 0 → s.program[s.pc]? = some st →
    ((∃ r v, st = .wr r v ∧ w = wrWord r v) ∨ (∃ r, st = .rd r ∧ w = rdWord r)) →
    (∀ t, exec (decode w) s = .next t → step s = .next (t.nextPc).passTurn) ∧
    (∀ f, exec (decode w) s = .fault f →
      step s = .fault f ∧ (advance s).pc = s.pc ∧ advance (advance s) = advance s) ∧
    (∀ x, exec (decode w) s = .refused x →
      step s = .refused x ∧ (advance s).pc = s.pc ∧ advance (advance s) = advance s)

/-- R83: a poll reads its register into t and moves on only where bit k of the result is 1. A poll of DIVH, DIVL or FRAME
while it is ⊥ faults as the read does (R48, R49, R51), pc stays and the run is quiescent; no poll is refused. The draw of
the next turn (passTurn) is the model's own choice, log 1. -/
def Obligations.HostPollRepeatsUntilSet : Prop :=
  ∀ s r k, Unmarked s → s.turn = .host → s.halted = false → s.wait = 0 → s.program[s.pc]? = some (.poll r k) →
    (∀ t v, exec (decode (rdWord r)) s = .next t → t.t = some v →
      step s = .next ({ t with pc := if v.getLsbD k then s.pc + 1 else s.pc }).passTurn) ∧
    (∀ f, exec (decode (rdWord r)) s = .fault f →
      step s = .fault f ∧ (advance s).pc = s.pc ∧ advance (advance s) = advance s) ∧
    (r = .divh → s.divh = none → step s = .fault (.unwrittenRead 0)) ∧
    (r = .divl → s.divl = none → step s = .fault (.unwrittenRead 1)) ∧
    (r = .frame → s.frame = none → step s = .fault (.unwrittenRead 3)) ∧
    (∀ x, step s ≠ .refused x)

/-- R84: `delay n` sets WAIT and moves on; while WAIT is not 0, HOST's turn does nothing; each CLOCK cycle takes 1 from
WAIT until it is 0. R84 says that a waiting HOST has no step; that its turn then answers the same state is the model's
choice, log 2, and so is the draw of the next turn (passTurn), log 1. -/
def Obligations.HostDelayWaits : Prop :=
  (∀ s n, Unmarked s → s.turn = .host → s.halted = false → s.wait = 0 → s.program[s.pc]? = some (.delay n) →
    step s = .next ({ s with wait := n, pc := s.pc + 1 }).passTurn) ∧
  (∀ s, Unmarked s → s.turn = .host → s.wait ≠ 0 → step s = .next s.passTurn) ∧
  (∀ s n, (clockCycles n s).wait = s.wait - n) ∧
  (∀ s t, step s = .next t → s.wait ≠ 0 → s.turn ≠ .clock → t.wait = s.wait)

/-- R85: `jmp` continues at its target, `halt` stops HOST, a pc past the last statement stops HOST as `halt` does, and a
halted HOST has no step, so a state in which HOST is halted and the transmitter idle is final for HOST, in every state
that a run goes on to, with pc and t as they were. That pc stays at a halt is deduced, log 24; that a halted HOST's turn
answers the same state is the model's choice, log 2, and so is the draw of the next turn (passTurn), log 1. -/
def Obligations.HostJumpAndHalt : Prop :=
  (∀ s n, Unmarked s → s.turn = .host → s.halted = false → s.wait = 0 → s.program[s.pc]? = some (.jmp n) →
    step s = .next ({ s with pc := n }).passTurn) ∧
  (∀ s, Unmarked s → s.turn = .host → s.halted = false → s.wait = 0 →
    (s.program[s.pc]? = some .halt ∨ s.program.length ≤ s.pc) → step s = .next ({ s with halted := true }).passTurn) ∧
  (∀ s, Unmarked s → s.turn = .host → s.halted = true → step s = .next s.passTurn) ∧
  (∀ s, s.halted = true → s.txIdle = true → Unmarked s →
    FinalForHost s ∧ ∀ n, FinalForHost (runFrom s n) ∧ (runFrom s n).pc = s.pc ∧ (runFrom s n).t = s.t)

/-! ## Verdicts -/

/-- R23: the first Fault is recorded in FAULTED and the first Refuse in REFUSED, neither is ever cleared, and a state
with either recorded is not final. -/
def Obligations.VerdictsAreSticky : Prop :=
  (∀ s f, Unmarked s → step s = .fault f → advance s = { s with faulted := some f }) ∧
  (∀ s x, Unmarked s → step s = .refused x → advance s = { s with refused := some x }) ∧
  (∀ s n, ¬Unmarked s → runFrom s n = s) ∧
  (∀ s, ¬Unmarked s → (∀ t, step s ≠ .next t) ∧ (∀ i t, exec i s ≠ .next t) ∧ ¬FinalForHost s)

/-- R65: a CLOCK step never raises a verdict and runs in no marked state: on CLOCK's turn the step is the five phases
in their order, then HOST's WAIT counts down (R84). The draw of the next turn (passTurn) is the model's own choice,
log 1. -/
def Obligations.ClockStepNeverRaises : Prop :=
  (∀ s, Unmarked s → s.turn = .clock →
    step s = .next (garblePhase (loadPhase (shiftPhase (oversamplePhase (prescalerPhase s).2 (prescalerPhase s).1).2
        (oversamplePhase (prescalerPhase s).2 (prescalerPhase s).1).1))).countWait.passTurn) ∧
  (∀ s, ¬Unmarked s → s.turn = .clock → ∀ t, step s ≠ .next t)

/-- R22: only ENV's turn changes RXC or RXDATA, and ENV's turn changes nothing else (but whose turn comes next). -/
def Obligations.OnlyEnvDrivesInputs : Prop :=
  ∀ s t, step s = .next t →
    (t.rxc ≠ s.rxc ∨ t.rxdata ≠ s.rxdata → s.turn = .env) ∧
    (s.turn = .env → t = { s with rxc := t.rxc, rxdata := t.rxdata, turn := t.turn, draws := t.draws })

/-- R19: TXD changes only at bit ticks, and is 1 at reset. -/
def Obligations.TxdChangesOnlyAtBitTicks : Prop :=
  (∀ s t, step s = .next t → t.txd ≠ s.txd →
    s.turn = .clock ∧ (oversamplePhase (prescalerPhase s).2 (prescalerPhase s).1).2 = true) ∧
  State.reset.txd = true

/-- R25: UDRE goes to 0 only by HOST's DATA write and to 1 only by a load from TXB into TSR in a CLOCK cycle (R73: TXEN is
1, no bit is left to drive after the cycle's shift phase, and TSR_Q becomes the frame of TXB and FRAME); RXC changes only
by ENV; UDRE is 1 at reset. -/
def Obligations.FlagsChangeOnlyAsTabled : Prop :=
  (∀ s t, step s = .next t → s.txbFull = false → t.txbFull = true →
    s.turn = .host ∧ ∃ d, t.txb = some d ∧
      (s.program[s.pc]? = some (.wr .data d) ∨ ∃ w, s.program[s.pc]? = some (.bus w) ∧ decode w = .wrData d)) ∧
  (∀ s t, step s = .next t → s.txbFull = true → t.txbFull = false →
    s.turn = .clock ∧ s.ctrl.getLsbD 3 = true ∧
    (shiftPhase (oversamplePhase (prescalerPhase s).2 (prescalerPhase s).1).2
      (oversamplePhase (prescalerPhase s).2 (prescalerPhase s).1).1).tsrQ = [] ∧
    ∃ b f, s.txb = some b ∧ s.frame = some f ∧ t.tsrQ = frameBits b f) ∧
  (∀ s t, step s = .next t → t.rxc ≠ s.rxc → s.turn = .env) ∧
  State.reset.udre = true

/-! ## The clock cycle -/

/-- R61: the effective divisor in range is the committed divisor's low 12 bits, out of range it is OOR_DIV's, from ⊥ it
is ⊥, and no range check raises a fault. -/
def Obligations.EffectiveDivisorRule : Prop :=
  (∀ q : Divisor, q.toNat ≤ 0x0FFF → (effectiveDivisor q).toNat = q.toNat) ∧
  (∀ q : Divisor, 0x0FFF < q.toNat → effectiveDivisor q = Config.oorDiv q) ∧
  (∀ s, s.divq = none → s.presc = some 0 → (prescalerPhase s).1.presc = none) ∧
  (∀ s d, Unmarked s → ∃ t, exec (.wrDivl d) s = .next t)

/-- R62 and R63 (rounding by 92_eei_decisions.md D25): the two forms of the formula agree, a D of at most 65535 is stored as
it is, an in-range D is counted with as it is, F_CLK < 16 BAUD gives 0xFFFF, and out of range the committed value is above
0x0FFF and E is OOR_DIV's. Which value above 0x0FFF a D above 65535 becomes is open (log 25), and nothing here rests on
it. -/
def Obligations.DivisorFormula : Prop :=
  ∀ f b : Nat, 0 < f → 0 < b →
    f / 16 / b = f / (16 * b) ∧
    (divisorInRange f b = true →
      (divisorOf f b).toNat + 1 = f / (16 * b) ∧ (effectiveDivisor (divisorOf f b)).toNat + 1 = f / (16 * b)) ∧
    (16 * b ≤ f → f / (16 * b) ≤ 0x10000 → (divisorOf f b).toNat + 1 = f / (16 * b)) ∧
    (f < 16 * b → divisorOf f b = 0xFFFF) ∧
    (divisorInRange f b = false →
      0x0FFF < (divisorOf f b).toNat ∧ effectiveDivisor (divisorOf f b) = Config.oorDiv (divisorOf f b))

/-- R66's and R67's consequence, which the spec marks as derived: from any state whose PRESC is at most E, after n
cycles OS has moved on by the p-ticks so far and PRESC holds what is left of the current period. -/
def Obligations.DividerAfterCycles : Prop :=
  ∀ s q p n, s.divq = some q → s.presc = some p → p.toNat ≤ (effectiveDivisor q).toNat →
    let e := (effectiveDivisor q).toNat
    let c := n + (e - p.toNat)
    (clockCycles n s).os = s.os + BitVec.ofNat 4 (c / (e + 1)) ∧
    ∃ r, (clockCycles n s).presc = some r ∧ r.toNat = e - c % (e + 1)

/-- R68: while DIVQ is ⊥ nothing ticks and OS keeps its value, however many cycles run. -/
def Obligations.DividerStopsWithoutDivisor : Prop :=
  ∀ s n, MachineInv s → s.divq = none →
    s.presc = none ∧ (clockCycles n s).presc = none ∧ (clockCycles n s).os = s.os ∧
    (oversamplePhase (prescalerPhase s).2 (prescalerPhase s).1).2 = false ∧ (clockCycles n s).txd = s.txd

/-- R69: once DIVQ holds a value it never loses it, PRESC neither, and the divider's course does not depend on TXEN,
RXEN, FRAME or the transmitter's state. -/
def Obligations.DividerNeverStopsAgain : Prop :=
  (∀ s t, MachineInv s → step s = .next t → s.divq ≠ none → t.divq ≠ none ∧ t.presc ≠ none) ∧
  (∀ s s' n, s'.divq = s.divq → s'.presc = s.presc → s'.os = s.os →
    (clockCycles n s').presc = (clockCycles n s).presc ∧ (clockCycles n s').os = (clockCycles n s).os)

/-- R70: the frame's length and every one of its bits; the bits above the data width are not sent. -/
def Obligations.FrameBitsInLineOrder : Prop :=
  ∀ b f : Byte,
    let n := 5 + (f.extractLsb' 1 2).toNat
    let s := 1 + (f.extractLsb' 3 1).toNat
    (frameBits b f).length = 1 + n + s ∧ 7 ≤ 1 + n + s ∧ 1 + n + s ≤ 11 ∧
    (frameBits b f)[0]? = some false ∧
    (∀ k, k < n → (frameBits b f)[1 + k]? = some (b.getLsbD k)) ∧
    (∀ k, k < s → (frameBits b f)[1 + n + k]? = some true) ∧
    (∀ b' : Byte, (∀ k, k < n → b'.getLsbD k = b.getLsbD k) → frameBits b' f = frameBits b f) ∧
    (frameBits b 0x0E).length = 11

/-- R72: with no bit tick nothing changes; a bit tick drives the next frame bit (a draw while GARBLE = 1), or, with none
left, ends the frame with the line at mark. R72 says draw_bit(); that the draw is drawBit of the draw counter, and that the
counter then moves on, are the model's choices, logs 7 and 3. -/
def Obligations.ShiftPhaseDrivesNextBit : Prop :=
  ∀ s,
    shiftPhase false s = s ∧
    (s.tsrQ = [] → shiftPhase true s = { s with tsrActive := false, txd := true }) ∧
    (∀ x rest, s.tsrQ = x :: rest → s.garble = false →
      shiftPhase true s = { s with tsrQ := rest, tsrActive := true, txd := x }) ∧
    (∀ x rest, s.tsrQ = x :: rest → s.garble = true →
      shiftPhase true s =
        { s with tsrQ := rest, tsrActive := true, txd := Config.drawBit s.draws, draws := s.draws + 1 })

/-- R73: the byte loads where TXEN = 1, TXB_FULL = 1 and TSR_Q is empty (TXB and FRAME then hold values, by the machine's
invariant); else nothing changes. The format is the one FRAME holds at the load. -/
def Obligations.LoadPhaseMovesByte : Prop :=
  (∀ s, MachineInv s → s.ctrl.getLsbD 3 = true → s.txbFull = true → s.tsrQ = [] →
    ∃ b f, s.txb = some b ∧ s.frame = some f ∧ loadPhase s = { s with tsrQ := frameBits b f, txbFull := false }) ∧
  (∀ s, s.ctrl.getLsbD 3 = false ∨ s.txbFull = false ∨ s.tsrQ ≠ [] → loadPhase s = s) ∧
  (∀ s t d, exec (.wrFrame d) s = .next t → t.tsrQ = s.tsrQ ∧ (s.txIdle = false → t.garble = true))

/-- R74: GARBLE is cleared exactly where the transmitter is idle, so a garbled transmission stays garbled in every step
until it is idle. -/
def Obligations.GarbledUntilIdle : Prop :=
  (∀ s, s.txIdle = true → garblePhase s = { s with garble := false }) ∧
  (∀ s, s.txIdle = false → garblePhase s = s) ∧
  (∀ s t, step s = .next t → s.garble = true → t.garble = true ∨ t.txIdle = true)

/-- R13 and R56: RXEN has no effect on the transmit side. Two states that differ in CTRL alone, with the same TXEN, still
differ in CTRL alone after a CLOCK cycle. -/
def Obligations.RxenHasNoTransmitEffect : Prop :=
  ∀ s c n, c.getLsbD 3 = s.ctrl.getLsbD 3 →
    clockCycles n { s with ctrl := c } = { clockCycles n s with ctrl := c }

/-- R22: ENV's inputs reach nothing on the transmit side: cycles from two states that differ only in RXC and RXDATA still
differ only there. -/
def Obligations.InputsHaveNoTransmitEffect : Prop :=
  ∀ s x d n, clockCycles n { s with rxc := x, rxdata := d } = { clockCycles n s with rxc := x, rxdata := d }

/-! ## Timing, which the spec marks as derived -/

/-- 42_transmit_shift.md section 3 (R77): the bits waiting in the shift register go out one by one. The first is driven
at the next bit tick, at most T_BIT cycles away, and until then the line does not change; each bit lasts exactly T_BIT
cycles; then the line is at mark and the transmitter is idle. -/
def Obligations.WaitingBitsGoOutInTime : Prop :=
  ∀ s d p q, s.divq = some d → s.presc = some p → p.toNat ≤ (effectiveDivisor d).toNat → s.garble = false →
    s.txbFull = false → s.tsrQ = q → q ≠ [] →
    let tBit := bitTime (effectiveDivisor d)
    let c := cyclesToBitTick (effectiveDivisor d) p s.os
    1 ≤ c ∧ c ≤ tBit ∧
    (∀ j, j < c → (clockCycles j s).txd = s.txd) ∧
    (∀ k j x, q[k]? = some x → j < tBit → (clockCycles (c + k * tBit + j) s).txd = x) ∧
    (∀ j, (clockCycles (c + q.length * tBit + j) s).txd = true ∧ (clockCycles (c + q.length * tBit + j) s).txIdle = true)

/-- 42_transmit_shift.md section 3 (R76): with the shift register empty, the buffered byte loads in the very next cycle,
so UDRE reads 1 again after it. -/
def Obligations.EmptyShiftRegisterLoadsNextCycle : Prop :=
  ∀ s, MachineInv s → s.txbFull = true → s.tsrQ = [] →
    ∃ b f, s.txb = some b ∧ s.frame = some f ∧
      (clockCycle s).tsrQ = frameBits b f ∧ (clockCycle s).txbFull = false ∧ (clockCycle s).udre = true

/-- 42_transmit_shift.md section 3 (R76, R78): the bit tick that drives a frame's last bit loads the waiting byte in the
same cycle, so the next frame follows with no idle time. -/
def Obligations.LastBitTickLoadsNextFrame : Prop :=
  ∀ s x, MachineInv s → s.txbFull = true → s.tsrQ = [x] → s.garble = false →
    (oversamplePhase (prescalerPhase s).2 (prescalerPhase s).1).2 = true →
    ∃ b f, s.txb = some b ∧ s.frame = some f ∧
      (clockCycle s).txd = x ∧ (clockCycle s).tsrActive = true ∧ (clockCycle s).tsrQ = frameBits b f ∧
      (clockCycle s).txbFull = false ∧ (clockCycle s).txIdle = false

/-- 42_transmit_shift.md section 3 (R79): while CLOCK steps with no access between, a full buffer empties within 11 bit
times. -/
def Obligations.UdreReturnsWithinElevenBitTimes : Prop :=
  ∀ s d, MachineInv s → s.divq = some d → s.txbFull = true →
    ∃ n, n ≤ 11 * bitTime (effectiveDivisor d) ∧ (clockCycles n s).txbFull = false

/-- 70_reset_and_hazards.md section 3 (R105, R107): with the buffer empty and no access between, the transmitter is idle
within one bit time more than the bits that wait, so within 12 bit times, and it stays idle. -/
def Obligations.LineIdleWithinBound : Prop :=
  ∀ s d n, MachineInv s → s.divq = some d → s.txbFull = false →
    ((s.tsrQ.length + 1) * bitTime (effectiveDivisor d) ≤ n → (clockCycles n s).txIdle = true ∧ (clockCycles n s).txd = true) ∧
    (12 * bitTime (effectiveDivisor d) ≤ n → (clockCycles n s).txIdle = true)

/-! ## Driver sequences, which the spec marks as derived -/

/-- 43_host_sequences.md section 2 (R86): the four accesses of `init D` complete from any unmarked state, leave every
register set and change nothing else, except that GARBLE is set where the transmitter is not idle. -/
def Obligations.InitSetsEveryRegister : Prop :=
  ∀ s (d : Divisor), Unmarked s →
    ∃ s1 s2 s3, exec (.wrDivh (divisorHigh d)) s = .next s1 ∧ exec (.wrDivl (divisorLow d)) s1 = .next s2 ∧
      exec (.wrCtrl 0x18) s2 = .next s3 ∧
      exec (.wrFrame 0x0E) s3 = .next
        { s with divh := some (divisorHigh d), divl := some (divisorLow d), divq := some d,
                 presc := some (effectiveDivisor d), ctrl := 0x18, frame := some 0x0E,
                 garble := if s.txIdle then s.garble else true }

/-- 43_host_sequences.md section 2 (R87): between a STATUS read that saw UDRE = 1 and the DATA write, CLOCK's and ENV's
steps keep the buffer empty and the configuration in place, so the write is accepted. -/
def Obligations.PolledWriteNeverOverruns : Prop :=
  ∀ s t d, Unmarked s → s.turn ≠ .host → step s = .next t → s.txbFull = false → s.ctrl.getLsbD 3 = true →
    s.divq ≠ none → s.frame ≠ none →
    t.txbFull = false ∧ exec (.wrData d) t = .next { t with txb := some d, txbFull := true }

/-! ## Reset and the invariant -/

/-- 10_state.md section 2 and 70_reset_and_hazards.md section 1: what reset leaves (the values of R8's table and of R100
alone; the empty program and the draw counter are the model's choices, logs 12 and 3, and are not stated). -/
def Obligations.ResetLeavesTabledValues : Prop :=
  State.reset.divh = none ∧ State.reset.divl = none ∧ State.reset.divq = none ∧ State.reset.ctrl = 0x00 ∧
  State.reset.frame = none ∧ State.reset.txb = none ∧ State.reset.txbFull = false ∧ State.reset.tsrQ = [] ∧
  State.reset.tsrActive = false ∧ State.reset.txd = true ∧ State.reset.presc = none ∧ State.reset.garble = false ∧
  State.reset.faulted = none ∧ State.reset.refused = none ∧ State.reset.pc = 0 ∧ State.reset.t = none ∧
  State.reset.wait = 0 ∧ State.reset.halted = false ∧ State.reset.txIdle = true ∧
  (State.reset.statusByte &&& 0x7F) = 0x20 ∧ State.reset.statusByte.getLsbD 7 = State.reset.rxc

/-- 70_reset_and_hazards.md section 1 (R101, which the spec marks as derived): what each access does right after reset. -/
def Obligations.AccessesRightAfterReset : Prop :=
  exec .rdDivh State.reset = .fault (.unwrittenRead 0) ∧ exec .rdDivl State.reset = .fault (.unwrittenRead 1) ∧
  exec .rdFrame State.reset = .fault (.unwrittenRead 3) ∧
  (∃ t, exec .rdCtrl State.reset = .next t ∧ t.t = some 0x00) ∧
  (∃ t v, exec .rdStatus State.reset = .next t ∧ t.t = some v ∧ v &&& 0x7F = 0x20 ∧ v.getLsbD 7 = State.reset.rxc) ∧
  (∃ t, exec .rdData State.reset = .next t ∧ t.t = some State.reset.rxdata) ∧
  (∀ d, exec (.wrData d) State.reset = .refused (.dataWriteTxDisabled d)) ∧
  (∀ d, ∃ t, exec (.wrDivh d) State.reset = .next t) ∧ (∀ d, ∃ t, exec (.wrDivl d) State.reset = .next t) ∧
  (∀ d, d &&& 0xE7 = 0 → ∃ t, exec (.wrCtrl d) State.reset = .next t) ∧
  (∀ d, d &&& 0xF1 = 0 → ∃ t, exec (.wrFrame d) State.reset = .next t)

/-- The machine's invariant (Safety.MachineInv, each clause with its rule) holds right after reset. -/
def Obligations.InvariantAtReset : Prop := MachineInv State.reset

/-- Every step of every agent keeps the machine's invariant, from any state that has it. -/
def Obligations.StepKeepsInvariant : Prop := ∀ s t, MachineInv s → step s = .next t → MachineInv t

/-- The machine as the host runs it never completes a step out of or into a marked state (R23, R47), and keeps HOST's
program. -/
def Obligations.StepLeavesNoMark : Prop :=
  ∀ s t, core.step s = .next t → Unmarked s ∧ Unmarked t ∧ t.program = s.program
end

