-- ==== Sys2Proof/Laws/State.lean ====
section
/-! SUPPORT. One lemma per field per named update of the state, so that no proof unfolds a record update. -/

namespace Sys2Proof.Machine

variable (s : State)

@[simp] theorem State.setT_divh (v : Byte) : (s.setT v).divh = s.divh := rfl
@[simp] theorem State.setT_divl (v : Byte) : (s.setT v).divl = s.divl := rfl
@[simp] theorem State.setT_divq (v : Byte) : (s.setT v).divq = s.divq := rfl
@[simp] theorem State.setT_ctrl (v : Byte) : (s.setT v).ctrl = s.ctrl := rfl
@[simp] theorem State.setT_frame (v : Byte) : (s.setT v).frame = s.frame := rfl
@[simp] theorem State.setT_txb (v : Byte) : (s.setT v).txb = s.txb := rfl
@[simp] theorem State.setT_txbFull (v : Byte) : (s.setT v).txbFull = s.txbFull := rfl
@[simp] theorem State.setT_tsrQ (v : Byte) : (s.setT v).tsrQ = s.tsrQ := rfl
@[simp] theorem State.setT_tsrActive (v : Byte) : (s.setT v).tsrActive = s.tsrActive := rfl
@[simp] theorem State.setT_txd (v : Byte) : (s.setT v).txd = s.txd := rfl
@[simp] theorem State.setT_presc (v : Byte) : (s.setT v).presc = s.presc := rfl
@[simp] theorem State.setT_os (v : Byte) : (s.setT v).os = s.os := rfl
@[simp] theorem State.setT_garble (v : Byte) : (s.setT v).garble = s.garble := rfl
@[simp] theorem State.setT_rxc (v : Byte) : (s.setT v).rxc = s.rxc := rfl
@[simp] theorem State.setT_rxdata (v : Byte) : (s.setT v).rxdata = s.rxdata := rfl
@[simp] theorem State.setT_faulted (v : Byte) : (s.setT v).faulted = s.faulted := rfl
@[simp] theorem State.setT_refused (v : Byte) : (s.setT v).refused = s.refused := rfl
@[simp] theorem State.setT_program (v : Byte) : (s.setT v).program = s.program := rfl
@[simp] theorem State.setT_pc (v : Byte) : (s.setT v).pc = s.pc := rfl
@[simp] theorem State.setT_t (v : Byte) : (s.setT v).t = some v := rfl
@[simp] theorem State.setT_wait (v : Byte) : (s.setT v).wait = s.wait := rfl
@[simp] theorem State.setT_halted (v : Byte) : (s.setT v).halted = s.halted := rfl
@[simp] theorem State.setT_turn (v : Byte) : (s.setT v).turn = s.turn := rfl
@[simp] theorem State.setT_draws (v : Byte) : (s.setT v).draws = s.draws := rfl
@[simp] theorem State.setT_txIdle (v : Byte) : (s.setT v).txIdle = s.txIdle := rfl
@[simp] theorem State.setT_txen (v : Byte) : (s.setT v).txen = s.txen := rfl
@[simp] theorem State.setT_rxen (v : Byte) : (s.setT v).rxen = s.rxen := rfl
@[simp] theorem State.setT_marked (v : Byte) : (s.setT v).marked = s.marked := rfl
@[simp] theorem State.setT_udre (v : Byte) : (s.setT v).udre = s.udre := rfl
@[simp] theorem State.setT_statusByte (v : Byte) : (s.setT v).statusByte = s.statusByte := rfl

@[simp] theorem State.setDivh_divh (d : Byte) : (s.setDivh d).divh = some d := rfl
@[simp] theorem State.setDivh_divl (d : Byte) : (s.setDivh d).divl = s.divl := rfl
@[simp] theorem State.setDivh_divq (d : Byte) : (s.setDivh d).divq = s.divq := rfl
@[simp] theorem State.setDivh_ctrl (d : Byte) : (s.setDivh d).ctrl = s.ctrl := rfl
@[simp] theorem State.setDivh_frame (d : Byte) : (s.setDivh d).frame = s.frame := rfl
@[simp] theorem State.setDivh_txb (d : Byte) : (s.setDivh d).txb = s.txb := rfl
@[simp] theorem State.setDivh_txbFull (d : Byte) : (s.setDivh d).txbFull = s.txbFull := rfl
@[simp] theorem State.setDivh_tsrQ (d : Byte) : (s.setDivh d).tsrQ = s.tsrQ := rfl
@[simp] theorem State.setDivh_tsrActive (d : Byte) : (s.setDivh d).tsrActive = s.tsrActive := rfl
@[simp] theorem State.setDivh_txd (d : Byte) : (s.setDivh d).txd = s.txd := rfl
@[simp] theorem State.setDivh_presc (d : Byte) : (s.setDivh d).presc = s.presc := rfl
@[simp] theorem State.setDivh_os (d : Byte) : (s.setDivh d).os = s.os := rfl
@[simp] theorem State.setDivh_garble (d : Byte) : (s.setDivh d).garble = s.garble := rfl
@[simp] theorem State.setDivh_rxc (d : Byte) : (s.setDivh d).rxc = s.rxc := rfl
@[simp] theorem State.setDivh_rxdata (d : Byte) : (s.setDivh d).rxdata = s.rxdata := rfl
@[simp] theorem State.setDivh_faulted (d : Byte) : (s.setDivh d).faulted = s.faulted := rfl
@[simp] theorem State.setDivh_refused (d : Byte) : (s.setDivh d).refused = s.refused := rfl
@[simp] theorem State.setDivh_program (d : Byte) : (s.setDivh d).program = s.program := rfl
@[simp] theorem State.setDivh_pc (d : Byte) : (s.setDivh d).pc = s.pc := rfl
@[simp] theorem State.setDivh_t (d : Byte) : (s.setDivh d).t = s.t := rfl
@[simp] theorem State.setDivh_wait (d : Byte) : (s.setDivh d).wait = s.wait := rfl
@[simp] theorem State.setDivh_halted (d : Byte) : (s.setDivh d).halted = s.halted := rfl
@[simp] theorem State.setDivh_turn (d : Byte) : (s.setDivh d).turn = s.turn := rfl
@[simp] theorem State.setDivh_draws (d : Byte) : (s.setDivh d).draws = s.draws := rfl
@[simp] theorem State.setDivh_txIdle (d : Byte) : (s.setDivh d).txIdle = s.txIdle := rfl
@[simp] theorem State.setDivh_txen (d : Byte) : (s.setDivh d).txen = s.txen := rfl
@[simp] theorem State.setDivh_rxen (d : Byte) : (s.setDivh d).rxen = s.rxen := rfl
@[simp] theorem State.setDivh_marked (d : Byte) : (s.setDivh d).marked = s.marked := rfl
@[simp] theorem State.setDivh_udre (d : Byte) : (s.setDivh d).udre = s.udre := rfl
@[simp] theorem State.setDivh_statusByte (d : Byte) : (s.setDivh d).statusByte = s.statusByte := rfl

@[simp] theorem State.setDivl_divh (d : Byte) : (s.setDivl d).divh = s.divh := rfl
@[simp] theorem State.setDivl_divl (d : Byte) : (s.setDivl d).divl = some d := rfl
@[simp] theorem State.setDivl_divq (d : Byte) : (s.setDivl d).divq = s.divq := rfl
@[simp] theorem State.setDivl_ctrl (d : Byte) : (s.setDivl d).ctrl = s.ctrl := rfl
@[simp] theorem State.setDivl_frame (d : Byte) : (s.setDivl d).frame = s.frame := rfl
@[simp] theorem State.setDivl_txb (d : Byte) : (s.setDivl d).txb = s.txb := rfl
@[simp] theorem State.setDivl_txbFull (d : Byte) : (s.setDivl d).txbFull = s.txbFull := rfl
@[simp] theorem State.setDivl_tsrQ (d : Byte) : (s.setDivl d).tsrQ = s.tsrQ := rfl
@[simp] theorem State.setDivl_tsrActive (d : Byte) : (s.setDivl d).tsrActive = s.tsrActive := rfl
@[simp] theorem State.setDivl_txd (d : Byte) : (s.setDivl d).txd = s.txd := rfl
@[simp] theorem State.setDivl_presc (d : Byte) : (s.setDivl d).presc = s.presc := rfl
@[simp] theorem State.setDivl_os (d : Byte) : (s.setDivl d).os = s.os := rfl
@[simp] theorem State.setDivl_garble (d : Byte) : (s.setDivl d).garble = s.garble := rfl
@[simp] theorem State.setDivl_rxc (d : Byte) : (s.setDivl d).rxc = s.rxc := rfl
@[simp] theorem State.setDivl_rxdata (d : Byte) : (s.setDivl d).rxdata = s.rxdata := rfl
@[simp] theorem State.setDivl_faulted (d : Byte) : (s.setDivl d).faulted = s.faulted := rfl
@[simp] theorem State.setDivl_refused (d : Byte) : (s.setDivl d).refused = s.refused := rfl
@[simp] theorem State.setDivl_program (d : Byte) : (s.setDivl d).program = s.program := rfl
@[simp] theorem State.setDivl_pc (d : Byte) : (s.setDivl d).pc = s.pc := rfl
@[simp] theorem State.setDivl_t (d : Byte) : (s.setDivl d).t = s.t := rfl
@[simp] theorem State.setDivl_wait (d : Byte) : (s.setDivl d).wait = s.wait := rfl
@[simp] theorem State.setDivl_halted (d : Byte) : (s.setDivl d).halted = s.halted := rfl
@[simp] theorem State.setDivl_turn (d : Byte) : (s.setDivl d).turn = s.turn := rfl
@[simp] theorem State.setDivl_draws (d : Byte) : (s.setDivl d).draws = s.draws := rfl
@[simp] theorem State.setDivl_txIdle (d : Byte) : (s.setDivl d).txIdle = s.txIdle := rfl
@[simp] theorem State.setDivl_txen (d : Byte) : (s.setDivl d).txen = s.txen := rfl
@[simp] theorem State.setDivl_rxen (d : Byte) : (s.setDivl d).rxen = s.rxen := rfl
@[simp] theorem State.setDivl_marked (d : Byte) : (s.setDivl d).marked = s.marked := rfl
@[simp] theorem State.setDivl_udre (d : Byte) : (s.setDivl d).udre = s.udre := rfl
@[simp] theorem State.setDivl_statusByte (d : Byte) : (s.setDivl d).statusByte = s.statusByte := rfl

@[simp] theorem State.setCtrl_divh (c : Byte) : (s.setCtrl c).divh = s.divh := rfl
@[simp] theorem State.setCtrl_divl (c : Byte) : (s.setCtrl c).divl = s.divl := rfl
@[simp] theorem State.setCtrl_divq (c : Byte) : (s.setCtrl c).divq = s.divq := rfl
@[simp] theorem State.setCtrl_ctrl (c : Byte) : (s.setCtrl c).ctrl = c := rfl
@[simp] theorem State.setCtrl_frame (c : Byte) : (s.setCtrl c).frame = s.frame := rfl
@[simp] theorem State.setCtrl_txb (c : Byte) : (s.setCtrl c).txb = s.txb := rfl
@[simp] theorem State.setCtrl_txbFull (c : Byte) : (s.setCtrl c).txbFull = s.txbFull := rfl
@[simp] theorem State.setCtrl_tsrQ (c : Byte) : (s.setCtrl c).tsrQ = s.tsrQ := rfl
@[simp] theorem State.setCtrl_tsrActive (c : Byte) : (s.setCtrl c).tsrActive = s.tsrActive := rfl
@[simp] theorem State.setCtrl_txd (c : Byte) : (s.setCtrl c).txd = s.txd := rfl
@[simp] theorem State.setCtrl_presc (c : Byte) : (s.setCtrl c).presc = s.presc := rfl
@[simp] theorem State.setCtrl_os (c : Byte) : (s.setCtrl c).os = s.os := rfl
@[simp] theorem State.setCtrl_garble (c : Byte) : (s.setCtrl c).garble = s.garble := rfl
@[simp] theorem State.setCtrl_rxc (c : Byte) : (s.setCtrl c).rxc = s.rxc := rfl
@[simp] theorem State.setCtrl_rxdata (c : Byte) : (s.setCtrl c).rxdata = s.rxdata := rfl
@[simp] theorem State.setCtrl_faulted (c : Byte) : (s.setCtrl c).faulted = s.faulted := rfl
@[simp] theorem State.setCtrl_refused (c : Byte) : (s.setCtrl c).refused = s.refused := rfl
@[simp] theorem State.setCtrl_program (c : Byte) : (s.setCtrl c).program = s.program := rfl
@[simp] theorem State.setCtrl_pc (c : Byte) : (s.setCtrl c).pc = s.pc := rfl
@[simp] theorem State.setCtrl_t (c : Byte) : (s.setCtrl c).t = s.t := rfl
@[simp] theorem State.setCtrl_wait (c : Byte) : (s.setCtrl c).wait = s.wait := rfl
@[simp] theorem State.setCtrl_halted (c : Byte) : (s.setCtrl c).halted = s.halted := rfl
@[simp] theorem State.setCtrl_turn (c : Byte) : (s.setCtrl c).turn = s.turn := rfl
@[simp] theorem State.setCtrl_draws (c : Byte) : (s.setCtrl c).draws = s.draws := rfl
@[simp] theorem State.setCtrl_txIdle (c : Byte) : (s.setCtrl c).txIdle = s.txIdle := rfl
@[simp] theorem State.setCtrl_marked (c : Byte) : (s.setCtrl c).marked = s.marked := rfl
@[simp] theorem State.setCtrl_udre (c : Byte) : (s.setCtrl c).udre = s.udre := rfl
@[simp] theorem State.setCtrl_statusByte (c : Byte) : (s.setCtrl c).statusByte = s.statusByte := rfl

@[simp] theorem State.setFrame_divh (d : Byte) : (s.setFrame d).divh = s.divh := rfl
@[simp] theorem State.setFrame_divl (d : Byte) : (s.setFrame d).divl = s.divl := rfl
@[simp] theorem State.setFrame_divq (d : Byte) : (s.setFrame d).divq = s.divq := rfl
@[simp] theorem State.setFrame_ctrl (d : Byte) : (s.setFrame d).ctrl = s.ctrl := rfl
@[simp] theorem State.setFrame_frame (d : Byte) : (s.setFrame d).frame = some d := rfl
@[simp] theorem State.setFrame_txb (d : Byte) : (s.setFrame d).txb = s.txb := rfl
@[simp] theorem State.setFrame_txbFull (d : Byte) : (s.setFrame d).txbFull = s.txbFull := rfl
@[simp] theorem State.setFrame_tsrQ (d : Byte) : (s.setFrame d).tsrQ = s.tsrQ := rfl
@[simp] theorem State.setFrame_tsrActive (d : Byte) : (s.setFrame d).tsrActive = s.tsrActive := rfl
@[simp] theorem State.setFrame_txd (d : Byte) : (s.setFrame d).txd = s.txd := rfl
@[simp] theorem State.setFrame_presc (d : Byte) : (s.setFrame d).presc = s.presc := rfl
@[simp] theorem State.setFrame_os (d : Byte) : (s.setFrame d).os = s.os := rfl
@[simp] theorem State.setFrame_garble (d : Byte) : (s.setFrame d).garble = s.garble := rfl
@[simp] theorem State.setFrame_rxc (d : Byte) : (s.setFrame d).rxc = s.rxc := rfl
@[simp] theorem State.setFrame_rxdata (d : Byte) : (s.setFrame d).rxdata = s.rxdata := rfl
@[simp] theorem State.setFrame_faulted (d : Byte) : (s.setFrame d).faulted = s.faulted := rfl
@[simp] theorem State.setFrame_refused (d : Byte) : (s.setFrame d).refused = s.refused := rfl
@[simp] theorem State.setFrame_program (d : Byte) : (s.setFrame d).program = s.program := rfl
@[simp] theorem State.setFrame_pc (d : Byte) : (s.setFrame d).pc = s.pc := rfl
@[simp] theorem State.setFrame_t (d : Byte) : (s.setFrame d).t = s.t := rfl
@[simp] theorem State.setFrame_wait (d : Byte) : (s.setFrame d).wait = s.wait := rfl
@[simp] theorem State.setFrame_halted (d : Byte) : (s.setFrame d).halted = s.halted := rfl
@[simp] theorem State.setFrame_turn (d : Byte) : (s.setFrame d).turn = s.turn := rfl
@[simp] theorem State.setFrame_draws (d : Byte) : (s.setFrame d).draws = s.draws := rfl
@[simp] theorem State.setFrame_txIdle (d : Byte) : (s.setFrame d).txIdle = s.txIdle := rfl
@[simp] theorem State.setFrame_txen (d : Byte) : (s.setFrame d).txen = s.txen := rfl
@[simp] theorem State.setFrame_rxen (d : Byte) : (s.setFrame d).rxen = s.rxen := rfl
@[simp] theorem State.setFrame_marked (d : Byte) : (s.setFrame d).marked = s.marked := rfl
@[simp] theorem State.setFrame_udre (d : Byte) : (s.setFrame d).udre = s.udre := rfl
@[simp] theorem State.setFrame_statusByte (d : Byte) : (s.setFrame d).statusByte = s.statusByte := rfl

@[simp] theorem State.fillTxb_divh (d : Byte) : (s.fillTxb d).divh = s.divh := rfl
@[simp] theorem State.fillTxb_divl (d : Byte) : (s.fillTxb d).divl = s.divl := rfl
@[simp] theorem State.fillTxb_divq (d : Byte) : (s.fillTxb d).divq = s.divq := rfl
@[simp] theorem State.fillTxb_ctrl (d : Byte) : (s.fillTxb d).ctrl = s.ctrl := rfl
@[simp] theorem State.fillTxb_frame (d : Byte) : (s.fillTxb d).frame = s.frame := rfl
@[simp] theorem State.fillTxb_txb (d : Byte) : (s.fillTxb d).txb = some d := rfl
@[simp] theorem State.fillTxb_txbFull (d : Byte) : (s.fillTxb d).txbFull = true := rfl
@[simp] theorem State.fillTxb_tsrQ (d : Byte) : (s.fillTxb d).tsrQ = s.tsrQ := rfl
@[simp] theorem State.fillTxb_tsrActive (d : Byte) : (s.fillTxb d).tsrActive = s.tsrActive := rfl
@[simp] theorem State.fillTxb_txd (d : Byte) : (s.fillTxb d).txd = s.txd := rfl
@[simp] theorem State.fillTxb_presc (d : Byte) : (s.fillTxb d).presc = s.presc := rfl
@[simp] theorem State.fillTxb_os (d : Byte) : (s.fillTxb d).os = s.os := rfl
@[simp] theorem State.fillTxb_garble (d : Byte) : (s.fillTxb d).garble = s.garble := rfl
@[simp] theorem State.fillTxb_rxc (d : Byte) : (s.fillTxb d).rxc = s.rxc := rfl
@[simp] theorem State.fillTxb_rxdata (d : Byte) : (s.fillTxb d).rxdata = s.rxdata := rfl
@[simp] theorem State.fillTxb_faulted (d : Byte) : (s.fillTxb d).faulted = s.faulted := rfl
@[simp] theorem State.fillTxb_refused (d : Byte) : (s.fillTxb d).refused = s.refused := rfl
@[simp] theorem State.fillTxb_program (d : Byte) : (s.fillTxb d).program = s.program := rfl
@[simp] theorem State.fillTxb_pc (d : Byte) : (s.fillTxb d).pc = s.pc := rfl
@[simp] theorem State.fillTxb_t (d : Byte) : (s.fillTxb d).t = s.t := rfl
@[simp] theorem State.fillTxb_wait (d : Byte) : (s.fillTxb d).wait = s.wait := rfl
@[simp] theorem State.fillTxb_halted (d : Byte) : (s.fillTxb d).halted = s.halted := rfl
@[simp] theorem State.fillTxb_turn (d : Byte) : (s.fillTxb d).turn = s.turn := rfl
@[simp] theorem State.fillTxb_draws (d : Byte) : (s.fillTxb d).draws = s.draws := rfl
@[simp] theorem State.fillTxb_txen (d : Byte) : (s.fillTxb d).txen = s.txen := rfl
@[simp] theorem State.fillTxb_rxen (d : Byte) : (s.fillTxb d).rxen = s.rxen := rfl
@[simp] theorem State.fillTxb_marked (d : Byte) : (s.fillTxb d).marked = s.marked := rfl

@[simp] theorem State.setPc_divh (n : Nat) : (s.setPc n).divh = s.divh := rfl
@[simp] theorem State.setPc_divl (n : Nat) : (s.setPc n).divl = s.divl := rfl
@[simp] theorem State.setPc_divq (n : Nat) : (s.setPc n).divq = s.divq := rfl
@[simp] theorem State.setPc_ctrl (n : Nat) : (s.setPc n).ctrl = s.ctrl := rfl
@[simp] theorem State.setPc_frame (n : Nat) : (s.setPc n).frame = s.frame := rfl
@[simp] theorem State.setPc_txb (n : Nat) : (s.setPc n).txb = s.txb := rfl
@[simp] theorem State.setPc_txbFull (n : Nat) : (s.setPc n).txbFull = s.txbFull := rfl
@[simp] theorem State.setPc_tsrQ (n : Nat) : (s.setPc n).tsrQ = s.tsrQ := rfl
@[simp] theorem State.setPc_tsrActive (n : Nat) : (s.setPc n).tsrActive = s.tsrActive := rfl
@[simp] theorem State.setPc_txd (n : Nat) : (s.setPc n).txd = s.txd := rfl
@[simp] theorem State.setPc_presc (n : Nat) : (s.setPc n).presc = s.presc := rfl
@[simp] theorem State.setPc_os (n : Nat) : (s.setPc n).os = s.os := rfl
@[simp] theorem State.setPc_garble (n : Nat) : (s.setPc n).garble = s.garble := rfl
@[simp] theorem State.setPc_rxc (n : Nat) : (s.setPc n).rxc = s.rxc := rfl
@[simp] theorem State.setPc_rxdata (n : Nat) : (s.setPc n).rxdata = s.rxdata := rfl
@[simp] theorem State.setPc_faulted (n : Nat) : (s.setPc n).faulted = s.faulted := rfl
@[simp] theorem State.setPc_refused (n : Nat) : (s.setPc n).refused = s.refused := rfl
@[simp] theorem State.setPc_program (n : Nat) : (s.setPc n).program = s.program := rfl
@[simp] theorem State.setPc_pc (n : Nat) : (s.setPc n).pc = n := rfl
@[simp] theorem State.setPc_t (n : Nat) : (s.setPc n).t = s.t := rfl
@[simp] theorem State.setPc_wait (n : Nat) : (s.setPc n).wait = s.wait := rfl
@[simp] theorem State.setPc_halted (n : Nat) : (s.setPc n).halted = s.halted := rfl
@[simp] theorem State.setPc_turn (n : Nat) : (s.setPc n).turn = s.turn := rfl
@[simp] theorem State.setPc_draws (n : Nat) : (s.setPc n).draws = s.draws := rfl
@[simp] theorem State.setPc_txIdle (n : Nat) : (s.setPc n).txIdle = s.txIdle := rfl
@[simp] theorem State.setPc_txen (n : Nat) : (s.setPc n).txen = s.txen := rfl
@[simp] theorem State.setPc_rxen (n : Nat) : (s.setPc n).rxen = s.rxen := rfl
@[simp] theorem State.setPc_marked (n : Nat) : (s.setPc n).marked = s.marked := rfl
@[simp] theorem State.setPc_udre (n : Nat) : (s.setPc n).udre = s.udre := rfl
@[simp] theorem State.setPc_statusByte (n : Nat) : (s.setPc n).statusByte = s.statusByte := rfl

@[simp] theorem State.setWait_divh (n : Nat) : (s.setWait n).divh = s.divh := rfl
@[simp] theorem State.setWait_divl (n : Nat) : (s.setWait n).divl = s.divl := rfl
@[simp] theorem State.setWait_divq (n : Nat) : (s.setWait n).divq = s.divq := rfl
@[simp] theorem State.setWait_ctrl (n : Nat) : (s.setWait n).ctrl = s.ctrl := rfl
@[simp] theorem State.setWait_frame (n : Nat) : (s.setWait n).frame = s.frame := rfl
@[simp] theorem State.setWait_txb (n : Nat) : (s.setWait n).txb = s.txb := rfl
@[simp] theorem State.setWait_txbFull (n : Nat) : (s.setWait n).txbFull = s.txbFull := rfl
@[simp] theorem State.setWait_tsrQ (n : Nat) : (s.setWait n).tsrQ = s.tsrQ := rfl
@[simp] theorem State.setWait_tsrActive (n : Nat) : (s.setWait n).tsrActive = s.tsrActive := rfl
@[simp] theorem State.setWait_txd (n : Nat) : (s.setWait n).txd = s.txd := rfl
@[simp] theorem State.setWait_presc (n : Nat) : (s.setWait n).presc = s.presc := rfl
@[simp] theorem State.setWait_os (n : Nat) : (s.setWait n).os = s.os := rfl
@[simp] theorem State.setWait_garble (n : Nat) : (s.setWait n).garble = s.garble := rfl
@[simp] theorem State.setWait_rxc (n : Nat) : (s.setWait n).rxc = s.rxc := rfl
@[simp] theorem State.setWait_rxdata (n : Nat) : (s.setWait n).rxdata = s.rxdata := rfl
@[simp] theorem State.setWait_faulted (n : Nat) : (s.setWait n).faulted = s.faulted := rfl
@[simp] theorem State.setWait_refused (n : Nat) : (s.setWait n).refused = s.refused := rfl
@[simp] theorem State.setWait_program (n : Nat) : (s.setWait n).program = s.program := rfl
@[simp] theorem State.setWait_pc (n : Nat) : (s.setWait n).pc = s.pc := rfl
@[simp] theorem State.setWait_t (n : Nat) : (s.setWait n).t = s.t := rfl
@[simp] theorem State.setWait_wait (n : Nat) : (s.setWait n).wait = n := rfl
@[simp] theorem State.setWait_halted (n : Nat) : (s.setWait n).halted = s.halted := rfl
@[simp] theorem State.setWait_turn (n : Nat) : (s.setWait n).turn = s.turn := rfl
@[simp] theorem State.setWait_draws (n : Nat) : (s.setWait n).draws = s.draws := rfl
@[simp] theorem State.setWait_txIdle (n : Nat) : (s.setWait n).txIdle = s.txIdle := rfl
@[simp] theorem State.setWait_txen (n : Nat) : (s.setWait n).txen = s.txen := rfl
@[simp] theorem State.setWait_rxen (n : Nat) : (s.setWait n).rxen = s.rxen := rfl
@[simp] theorem State.setWait_marked (n : Nat) : (s.setWait n).marked = s.marked := rfl
@[simp] theorem State.setWait_udre (n : Nat) : (s.setWait n).udre = s.udre := rfl
@[simp] theorem State.setWait_statusByte (n : Nat) : (s.setWait n).statusByte = s.statusByte := rfl

@[simp] theorem State.halt_divh : (s.halt).divh = s.divh := rfl
@[simp] theorem State.halt_divl : (s.halt).divl = s.divl := rfl
@[simp] theorem State.halt_divq : (s.halt).divq = s.divq := rfl
@[simp] theorem State.halt_ctrl : (s.halt).ctrl = s.ctrl := rfl
@[simp] theorem State.halt_frame : (s.halt).frame = s.frame := rfl
@[simp] theorem State.halt_txb : (s.halt).txb = s.txb := rfl
@[simp] theorem State.halt_txbFull : (s.halt).txbFull = s.txbFull := rfl
@[simp] theorem State.halt_tsrQ : (s.halt).tsrQ = s.tsrQ := rfl
@[simp] theorem State.halt_tsrActive : (s.halt).tsrActive = s.tsrActive := rfl
@[simp] theorem State.halt_txd : (s.halt).txd = s.txd := rfl
@[simp] theorem State.halt_presc : (s.halt).presc = s.presc := rfl
@[simp] theorem State.halt_os : (s.halt).os = s.os := rfl
@[simp] theorem State.halt_garble : (s.halt).garble = s.garble := rfl
@[simp] theorem State.halt_rxc : (s.halt).rxc = s.rxc := rfl
@[simp] theorem State.halt_rxdata : (s.halt).rxdata = s.rxdata := rfl
@[simp] theorem State.halt_faulted : (s.halt).faulted = s.faulted := rfl
@[simp] theorem State.halt_refused : (s.halt).refused = s.refused := rfl
@[simp] theorem State.halt_program : (s.halt).program = s.program := rfl
@[simp] theorem State.halt_pc : (s.halt).pc = s.pc := rfl
@[simp] theorem State.halt_t : (s.halt).t = s.t := rfl
@[simp] theorem State.halt_wait : (s.halt).wait = s.wait := rfl
@[simp] theorem State.halt_halted : (s.halt).halted = true := rfl
@[simp] theorem State.halt_turn : (s.halt).turn = s.turn := rfl
@[simp] theorem State.halt_draws : (s.halt).draws = s.draws := rfl
@[simp] theorem State.halt_txIdle : (s.halt).txIdle = s.txIdle := rfl
@[simp] theorem State.halt_txen : (s.halt).txen = s.txen := rfl
@[simp] theorem State.halt_rxen : (s.halt).rxen = s.rxen := rfl
@[simp] theorem State.halt_marked : (s.halt).marked = s.marked := rfl
@[simp] theorem State.halt_udre : (s.halt).udre = s.udre := rfl
@[simp] theorem State.halt_statusByte : (s.halt).statusByte = s.statusByte := rfl

@[simp] theorem State.nextPc_divh : (s.nextPc).divh = s.divh := rfl
@[simp] theorem State.nextPc_divl : (s.nextPc).divl = s.divl := rfl
@[simp] theorem State.nextPc_divq : (s.nextPc).divq = s.divq := rfl
@[simp] theorem State.nextPc_ctrl : (s.nextPc).ctrl = s.ctrl := rfl
@[simp] theorem State.nextPc_frame : (s.nextPc).frame = s.frame := rfl
@[simp] theorem State.nextPc_txb : (s.nextPc).txb = s.txb := rfl
@[simp] theorem State.nextPc_txbFull : (s.nextPc).txbFull = s.txbFull := rfl
@[simp] theorem State.nextPc_tsrQ : (s.nextPc).tsrQ = s.tsrQ := rfl
@[simp] theorem State.nextPc_tsrActive : (s.nextPc).tsrActive = s.tsrActive := rfl
@[simp] theorem State.nextPc_txd : (s.nextPc).txd = s.txd := rfl
@[simp] theorem State.nextPc_presc : (s.nextPc).presc = s.presc := rfl
@[simp] theorem State.nextPc_os : (s.nextPc).os = s.os := rfl
@[simp] theorem State.nextPc_garble : (s.nextPc).garble = s.garble := rfl
@[simp] theorem State.nextPc_rxc : (s.nextPc).rxc = s.rxc := rfl
@[simp] theorem State.nextPc_rxdata : (s.nextPc).rxdata = s.rxdata := rfl
@[simp] theorem State.nextPc_faulted : (s.nextPc).faulted = s.faulted := rfl
@[simp] theorem State.nextPc_refused : (s.nextPc).refused = s.refused := rfl
@[simp] theorem State.nextPc_program : (s.nextPc).program = s.program := rfl
@[simp] theorem State.nextPc_pc : (s.nextPc).pc = s.pc + 1 := rfl
@[simp] theorem State.nextPc_t : (s.nextPc).t = s.t := rfl
@[simp] theorem State.nextPc_wait : (s.nextPc).wait = s.wait := rfl
@[simp] theorem State.nextPc_halted : (s.nextPc).halted = s.halted := rfl
@[simp] theorem State.nextPc_turn : (s.nextPc).turn = s.turn := rfl
@[simp] theorem State.nextPc_draws : (s.nextPc).draws = s.draws := rfl
@[simp] theorem State.nextPc_txIdle : (s.nextPc).txIdle = s.txIdle := rfl
@[simp] theorem State.nextPc_txen : (s.nextPc).txen = s.txen := rfl
@[simp] theorem State.nextPc_rxen : (s.nextPc).rxen = s.rxen := rfl
@[simp] theorem State.nextPc_marked : (s.nextPc).marked = s.marked := rfl
@[simp] theorem State.nextPc_udre : (s.nextPc).udre = s.udre := rfl
@[simp] theorem State.nextPc_statusByte : (s.nextPc).statusByte = s.statusByte := rfl

@[simp] theorem State.garbleIfBusy_divh : (s.garbleIfBusy).divh = s.divh := rfl
@[simp] theorem State.garbleIfBusy_divl : (s.garbleIfBusy).divl = s.divl := rfl
@[simp] theorem State.garbleIfBusy_divq : (s.garbleIfBusy).divq = s.divq := rfl
@[simp] theorem State.garbleIfBusy_ctrl : (s.garbleIfBusy).ctrl = s.ctrl := rfl
@[simp] theorem State.garbleIfBusy_frame : (s.garbleIfBusy).frame = s.frame := rfl
@[simp] theorem State.garbleIfBusy_txb : (s.garbleIfBusy).txb = s.txb := rfl
@[simp] theorem State.garbleIfBusy_txbFull : (s.garbleIfBusy).txbFull = s.txbFull := rfl
@[simp] theorem State.garbleIfBusy_tsrQ : (s.garbleIfBusy).tsrQ = s.tsrQ := rfl
@[simp] theorem State.garbleIfBusy_tsrActive : (s.garbleIfBusy).tsrActive = s.tsrActive := rfl
@[simp] theorem State.garbleIfBusy_txd : (s.garbleIfBusy).txd = s.txd := rfl
@[simp] theorem State.garbleIfBusy_presc : (s.garbleIfBusy).presc = s.presc := rfl
@[simp] theorem State.garbleIfBusy_os : (s.garbleIfBusy).os = s.os := rfl
@[simp] theorem State.garbleIfBusy_garble : (s.garbleIfBusy).garble = (s.garble || !s.txIdle) := rfl
@[simp] theorem State.garbleIfBusy_rxc : (s.garbleIfBusy).rxc = s.rxc := rfl
@[simp] theorem State.garbleIfBusy_rxdata : (s.garbleIfBusy).rxdata = s.rxdata := rfl
@[simp] theorem State.garbleIfBusy_faulted : (s.garbleIfBusy).faulted = s.faulted := rfl
@[simp] theorem State.garbleIfBusy_refused : (s.garbleIfBusy).refused = s.refused := rfl
@[simp] theorem State.garbleIfBusy_program : (s.garbleIfBusy).program = s.program := rfl
@[simp] theorem State.garbleIfBusy_pc : (s.garbleIfBusy).pc = s.pc := rfl
@[simp] theorem State.garbleIfBusy_t : (s.garbleIfBusy).t = s.t := rfl
@[simp] theorem State.garbleIfBusy_wait : (s.garbleIfBusy).wait = s.wait := rfl
@[simp] theorem State.garbleIfBusy_halted : (s.garbleIfBusy).halted = s.halted := rfl
@[simp] theorem State.garbleIfBusy_turn : (s.garbleIfBusy).turn = s.turn := rfl
@[simp] theorem State.garbleIfBusy_draws : (s.garbleIfBusy).draws = s.draws := rfl
@[simp] theorem State.garbleIfBusy_txIdle : (s.garbleIfBusy).txIdle = s.txIdle := rfl
@[simp] theorem State.garbleIfBusy_txen : (s.garbleIfBusy).txen = s.txen := rfl
@[simp] theorem State.garbleIfBusy_rxen : (s.garbleIfBusy).rxen = s.rxen := rfl
@[simp] theorem State.garbleIfBusy_marked : (s.garbleIfBusy).marked = s.marked := rfl
@[simp] theorem State.garbleIfBusy_udre : (s.garbleIfBusy).udre = s.udre := rfl
@[simp] theorem State.garbleIfBusy_statusByte : (s.garbleIfBusy).statusByte = s.statusByte := rfl

@[simp] theorem State.passTurn_divh : (s.passTurn).divh = s.divh := rfl
@[simp] theorem State.passTurn_divl : (s.passTurn).divl = s.divl := rfl
@[simp] theorem State.passTurn_divq : (s.passTurn).divq = s.divq := rfl
@[simp] theorem State.passTurn_ctrl : (s.passTurn).ctrl = s.ctrl := rfl
@[simp] theorem State.passTurn_frame : (s.passTurn).frame = s.frame := rfl
@[simp] theorem State.passTurn_txb : (s.passTurn).txb = s.txb := rfl
@[simp] theorem State.passTurn_txbFull : (s.passTurn).txbFull = s.txbFull := rfl
@[simp] theorem State.passTurn_tsrQ : (s.passTurn).tsrQ = s.tsrQ := rfl
@[simp] theorem State.passTurn_tsrActive : (s.passTurn).tsrActive = s.tsrActive := rfl
@[simp] theorem State.passTurn_txd : (s.passTurn).txd = s.txd := rfl
@[simp] theorem State.passTurn_presc : (s.passTurn).presc = s.presc := rfl
@[simp] theorem State.passTurn_os : (s.passTurn).os = s.os := rfl
@[simp] theorem State.passTurn_garble : (s.passTurn).garble = s.garble := rfl
@[simp] theorem State.passTurn_rxc : (s.passTurn).rxc = s.rxc := rfl
@[simp] theorem State.passTurn_rxdata : (s.passTurn).rxdata = s.rxdata := rfl
@[simp] theorem State.passTurn_faulted : (s.passTurn).faulted = s.faulted := rfl
@[simp] theorem State.passTurn_refused : (s.passTurn).refused = s.refused := rfl
@[simp] theorem State.passTurn_program : (s.passTurn).program = s.program := rfl
@[simp] theorem State.passTurn_pc : (s.passTurn).pc = s.pc := rfl
@[simp] theorem State.passTurn_t : (s.passTurn).t = s.t := rfl
@[simp] theorem State.passTurn_wait : (s.passTurn).wait = s.wait := rfl
@[simp] theorem State.passTurn_halted : (s.passTurn).halted = s.halted := rfl
@[simp] theorem State.passTurn_turn : (s.passTurn).turn = Config.drawTurn s.draws := rfl
@[simp] theorem State.passTurn_draws : (s.passTurn).draws = s.draws + 1 := rfl
@[simp] theorem State.passTurn_txIdle : (s.passTurn).txIdle = s.txIdle := rfl
@[simp] theorem State.passTurn_txen : (s.passTurn).txen = s.txen := rfl
@[simp] theorem State.passTurn_rxen : (s.passTurn).rxen = s.rxen := rfl
@[simp] theorem State.passTurn_marked : (s.passTurn).marked = s.marked := rfl
@[simp] theorem State.passTurn_udre : (s.passTurn).udre = s.udre := rfl
@[simp] theorem State.passTurn_statusByte : (s.passTurn).statusByte = s.statusByte := rfl

@[simp] theorem State.countWait_divh : (s.countWait).divh = s.divh := rfl
@[simp] theorem State.countWait_divl : (s.countWait).divl = s.divl := rfl
@[simp] theorem State.countWait_divq : (s.countWait).divq = s.divq := rfl
@[simp] theorem State.countWait_ctrl : (s.countWait).ctrl = s.ctrl := rfl
@[simp] theorem State.countWait_frame : (s.countWait).frame = s.frame := rfl
@[simp] theorem State.countWait_txb : (s.countWait).txb = s.txb := rfl
@[simp] theorem State.countWait_txbFull : (s.countWait).txbFull = s.txbFull := rfl
@[simp] theorem State.countWait_tsrQ : (s.countWait).tsrQ = s.tsrQ := rfl
@[simp] theorem State.countWait_tsrActive : (s.countWait).tsrActive = s.tsrActive := rfl
@[simp] theorem State.countWait_txd : (s.countWait).txd = s.txd := rfl
@[simp] theorem State.countWait_presc : (s.countWait).presc = s.presc := rfl
@[simp] theorem State.countWait_os : (s.countWait).os = s.os := rfl
@[simp] theorem State.countWait_garble : (s.countWait).garble = s.garble := rfl
@[simp] theorem State.countWait_rxc : (s.countWait).rxc = s.rxc := rfl
@[simp] theorem State.countWait_rxdata : (s.countWait).rxdata = s.rxdata := rfl
@[simp] theorem State.countWait_faulted : (s.countWait).faulted = s.faulted := rfl
@[simp] theorem State.countWait_refused : (s.countWait).refused = s.refused := rfl
@[simp] theorem State.countWait_program : (s.countWait).program = s.program := rfl
@[simp] theorem State.countWait_pc : (s.countWait).pc = s.pc := rfl
@[simp] theorem State.countWait_t : (s.countWait).t = s.t := rfl
@[simp] theorem State.countWait_wait : (s.countWait).wait = s.wait - 1 := rfl
@[simp] theorem State.countWait_halted : (s.countWait).halted = s.halted := rfl
@[simp] theorem State.countWait_turn : (s.countWait).turn = s.turn := rfl
@[simp] theorem State.countWait_draws : (s.countWait).draws = s.draws := rfl
@[simp] theorem State.countWait_txIdle : (s.countWait).txIdle = s.txIdle := rfl
@[simp] theorem State.countWait_txen : (s.countWait).txen = s.txen := rfl
@[simp] theorem State.countWait_rxen : (s.countWait).rxen = s.rxen := rfl
@[simp] theorem State.countWait_marked : (s.countWait).marked = s.marked := rfl
@[simp] theorem State.countWait_udre : (s.countWait).udre = s.udre := rfl
@[simp] theorem State.countWait_statusByte : (s.countWait).statusByte = s.statusByte := rfl

@[simp] theorem envChange_divh : (envChange s).divh = s.divh := rfl
@[simp] theorem envChange_divl : (envChange s).divl = s.divl := rfl
@[simp] theorem envChange_divq : (envChange s).divq = s.divq := rfl
@[simp] theorem envChange_ctrl : (envChange s).ctrl = s.ctrl := rfl
@[simp] theorem envChange_frame : (envChange s).frame = s.frame := rfl
@[simp] theorem envChange_txb : (envChange s).txb = s.txb := rfl
@[simp] theorem envChange_txbFull : (envChange s).txbFull = s.txbFull := rfl
@[simp] theorem envChange_tsrQ : (envChange s).tsrQ = s.tsrQ := rfl
@[simp] theorem envChange_tsrActive : (envChange s).tsrActive = s.tsrActive := rfl
@[simp] theorem envChange_txd : (envChange s).txd = s.txd := rfl
@[simp] theorem envChange_presc : (envChange s).presc = s.presc := rfl
@[simp] theorem envChange_os : (envChange s).os = s.os := rfl
@[simp] theorem envChange_garble : (envChange s).garble = s.garble := rfl
@[simp] theorem envChange_rxc : (envChange s).rxc = Config.drawRxc s.draws := rfl
@[simp] theorem envChange_rxdata : (envChange s).rxdata = Config.drawRxdata s.draws := rfl
@[simp] theorem envChange_faulted : (envChange s).faulted = s.faulted := rfl
@[simp] theorem envChange_refused : (envChange s).refused = s.refused := rfl
@[simp] theorem envChange_program : (envChange s).program = s.program := rfl
@[simp] theorem envChange_pc : (envChange s).pc = s.pc := rfl
@[simp] theorem envChange_t : (envChange s).t = s.t := rfl
@[simp] theorem envChange_wait : (envChange s).wait = s.wait := rfl
@[simp] theorem envChange_halted : (envChange s).halted = s.halted := rfl
@[simp] theorem envChange_turn : (envChange s).turn = s.turn := rfl
@[simp] theorem envChange_draws : (envChange s).draws = s.draws := rfl
@[simp] theorem envChange_txIdle : (envChange s).txIdle = s.txIdle := rfl
@[simp] theorem envChange_txen : (envChange s).txen = s.txen := rfl
@[simp] theorem envChange_rxen : (envChange s).rxen = s.rxen := rfl
@[simp] theorem envChange_marked : (envChange s).marked = s.marked := rfl
@[simp] theorem envChange_udre : (envChange s).udre = s.udre := rfl

end Sys2Proof.Machine
end

