-- ==== Sys2Proof/Laws/Ops.lean ====
section
/-! SUPPORT. What each shared operation can do, said once: the operations of Machine/Ops.lean. -/

namespace Sys2Proof.Machine

open Sys2Proof.Safety

/-- An unmarked state runs the step. -/
theorem unlessMarked_of_unmarked {s : State} (h : Unmarked s) (r : Result) : unlessMarked s r = r := by
  obtain ⟨hf, hr⟩ := h
  simp [unlessMarked, hf, hr]

/-- A guarded step answers a next state only from an unmarked state. -/
theorem unlessMarked_eq_next {s t : State} {r : Result} :
    unlessMarked s r = .next t ↔ Unmarked s ∧ r = .next t := by
  unfold unlessMarked Unmarked
  cases hf : s.faulted <;> cases hr : s.refused <;> simp

/-- The two answers that are next states are equal exactly where the states are. -/
theorem next_eq_next {s t : State} : (.next s : Result) = .next t ↔ t = s :=
  ⟨fun h => (Host.Outcome.next.inj h).symm, fun h => congrArg _ h.symm⟩

/-- A guarded step that always completes. -/
theorem unlessMarked_next_eq_next {s t u : State} :
    unlessMarked s (.next u) = .next t ↔ Unmarked s ∧ t = u := by
  rw [unlessMarked_eq_next, next_eq_next]

/-- A guarded step's faults: the recorded one, or the step's own from an unmarked state. -/
theorem unlessMarked_eq_fault {s : State} {r : Result} {f : Fault} :
    unlessMarked s r = .fault f ↔ s.faulted = some f ∨ (Unmarked s ∧ r = .fault f) := by
  unfold unlessMarked Unmarked
  cases hf : s.faulted <;> cases hr : s.refused <;> simp

/-- A guarded step's refusals: the recorded one, or the step's own from an unmarked state. -/
theorem unlessMarked_eq_refused {s : State} {r : Result} {x : Refusal} :
    unlessMarked s r = .refused x ↔
      (s.faulted = none ∧ s.refused = some x) ∨ (Unmarked s ∧ r = .refused x) := by
  unfold unlessMarked Unmarked
  cases hf : s.faulted <;> cases hr : s.refused <;> simp

/-- The mark as a Bool says the same as Unmarked. -/
theorem marked_eq_false_iff {s : State} : s.marked = false ↔ Unmarked s := by
  simp [State.marked, Unmarked]

theorem onNext_eq_next {r : Result} {f : State → State} {t : State} :
    onNext r f = .next t ↔ ∃ u, r = .next u ∧ f u = t := by
  cases r <;> simp [onNext]

theorem onNext_eq_fault {r : Result} {f : State → State} {x : Fault} : onNext r f = .fault x ↔ r = .fault x := by
  cases r <;> simp [onNext]

theorem onNext_eq_refused {r : Result} {f : State → State} {x : Refusal} :
    onNext r f = .refused x ↔ r = .refused x := by
  cases r <;> simp [onNext]

/-- Reading a cell completes exactly where the cell holds a value, which goes to t. -/
theorem readCell_eq_next {off : Offset} {cell : Option Byte} {s t : State} :
    readCell off cell s = .next t ↔ ∃ v, cell = some v ∧ t = s.setT v := by
  cases cell <;> simp [readCell, eq_comm]

/-- Reading a cell faults exactly where the cell is ⊥. -/
theorem readCell_eq_fault {off : Offset} {cell : Option Byte} {s : State} {f : Fault} :
    readCell off cell s = .fault f ↔ cell = none ∧ f = .unwrittenRead off := by
  cases cell <;> simp [readCell, eq_comm]

theorem readCell_ne_refused {off : Offset} {cell : Option Byte} {s : State} {x : Refusal} :
    readCell off cell s ≠ .refused x := by
  cases cell <;> simp [readCell]

/-- The commit does nothing, or writes exactly DIVQ and PRESC. -/
theorem commitDivisor_cases (s : State) (d : Byte) :
    (s.divh = none ∧ s.commitDivisor d = s) ∨
    (∃ h, s.divh = some h ∧ s.commitDivisor d =
      { s with divq := some (h ++ d), presc := some (effectiveDivisor (h ++ d)) }) := by
  unfold State.commitDivisor
  cases hd : s.divh <;> simp

theorem commitDivisor_of_none {s : State} (d : Byte) (h : s.divh = none) : s.commitDivisor d = s := by
  simp [State.commitDivisor, h]

theorem commitDivisor_of_some {s : State} (d : Byte) {v : Byte} (h : s.divh = some v) :
    s.commitDivisor d = { s with divq := some (v ++ d), presc := some (effectiveDivisor (v ++ d)) } := by
  simp [State.commitDivisor, h]

/-- tx_idle as its three conditions (R24). -/
theorem txIdle_eq_true {s : State} : s.txIdle = true ↔ s.txbFull = false ∧ s.tsrQ = [] ∧ s.tsrActive = false := by
  simp [State.txIdle, and_assoc]

/-- A poll moves pc by one or not at all, and changes nothing else. -/
theorem pollPc_cases (k : Fin 8) (s : State) : s.pollPc k = s ∨ s.pollPc k = s.nextPc := by
  unfold State.pollPc
  split <;> simp

/-- An in-range divisor is counted with as it is (R61). -/
theorem effectiveDivisor_of_le {q : Divisor} (h : q.toNat ≤ 0x0FFF) : (effectiveDivisor q).toNat = q.toNat := by
  simp [effectiveDivisor, h]
  omega

end Sys2Proof.Machine
end

