-- ==== Sys2Proof/Laws/Clock.lean ====
section
/-! SUPPORT. What each phase of a clock cycle can do, said once per phase, and what no clock cycle changes. -/

namespace Sys2Proof.Machine

/-- A formula result from -1 to 65535 is stored modulo 2^16 (R63). -/
theorem storedDivisor_of_le {d : Int} (h : d ≤ 0xFFFF) : storedDivisor d = BitVec.ofInt 16 d := if_pos h

/-- A formula result above 65535 is stored as some value above 0x0FFF (R63). -/
theorem storedDivisor_of_gt {d : Int} (h : 0xFFFF < d) : 0x0FFF < (storedDivisor d).toNat := by
  have := (Config.oversizeDivisor d.toNat).isLt
  simp only [storedDivisor, if_neg (not_le.mpr h), BitVec.toNat_ofNat]
  omega

/-- Phase 1 is one of three cases (R66). -/
theorem prescalerPhase_cases (s : State) :
    (s.presc = none ∧ prescalerPhase s = (s, false)) ∨
    (s.presc = some 0#12 ∧ prescalerPhase s = ({ s with presc := s.divq.map effectiveDivisor }, true)) ∨
    (∃ p, s.presc = some p ∧ p ≠ 0#12 ∧ prescalerPhase s = ({ s with presc := some (p - 1#12) }, false)) := by
  unfold prescalerPhase
  cases h : s.presc with
  | none => simp
  | some p => by_cases hp : p = 0#12 <;> simp [hp]

/-- Phase 2 does nothing without a p-tick, and moves only OS with one (R67). -/
theorem oversamplePhase_cases (b : Bool) (s : State) :
    (b = false ∧ oversamplePhase b s = (s, false)) ∨
    (b = true ∧ oversamplePhase b s = ({ s with os := s.os + 1#4 }, decide (s.os + 1#4 = 0#4))) := by
  cases b <;> simp [oversamplePhase]

/-- Phase 3 does nothing without a bit tick; with one it drives the next bit or ends the frame (R72). -/
theorem shiftPhase_cases (b : Bool) (s : State) :
    (b = false ∧ shiftPhase b s = s) ∨
    (b = true ∧ s.tsrQ = [] ∧ shiftPhase b s = { s with tsrActive := false, txd := true }) ∨
    (b = true ∧ ∃ x rest, s.tsrQ = x :: rest ∧ shiftPhase b s =
      { s with tsrQ := rest, tsrActive := true, txd := s.lineValue x,
               draws := if s.garble then s.draws + 1 else s.draws }) := by
  cases b with
  | false => simp [shiftPhase]
  | true => cases h : s.tsrQ <;> simp [shiftPhase, h]

/-- Phase 4 does nothing, or moves the buffered byte into an empty shift register (R73). -/
theorem loadPhase_cases (s : State) :
    loadPhase s = s ∨
    (s.txen = true ∧ s.txbFull = true ∧ s.tsrQ = [] ∧ ∃ b f, s.txb = some b ∧ s.frame = some f ∧
      loadPhase s = { s with tsrQ := frameBits b f, txbFull := false }) := by
  by_cases h : s.txen = true ∧ s.txbFull = true ∧ s.tsrQ = []
  · cases hb : s.txb with
    | none => left; simp [loadPhase, hb]
    | some b =>
      cases hf : s.frame with
      | none => left; simp [loadPhase, hb, hf]
      | some f => right; exact ⟨h.1, h.2.1, h.2.2, b, f, rfl, rfl, by simp [loadPhase, hb, hf, h]⟩
  · left; simp only [loadPhase, if_neg h]

/-- Phase 5 clears GARBLE exactly where the transmitter is idle (R74). -/
theorem garblePhase_cases (s : State) :
    (s.txIdle = false ∧ garblePhase s = s) ∨ (s.txIdle = true ∧ garblePhase s = { s with garble := false }) := by
  cases h : s.txIdle <;> simp [garblePhase, h]

@[simp] theorem prescalerPhase_divh (s : State) : (prescalerPhase s).1.divh = s.divh := by
  obtain ⟨-, h⟩ | ⟨-, h⟩ | ⟨p, -, -, h⟩ := prescalerPhase_cases s <;> rw [h]
@[simp] theorem prescalerPhase_divl (s : State) : (prescalerPhase s).1.divl = s.divl := by
  obtain ⟨-, h⟩ | ⟨-, h⟩ | ⟨p, -, -, h⟩ := prescalerPhase_cases s <;> rw [h]
@[simp] theorem prescalerPhase_divq (s : State) : (prescalerPhase s).1.divq = s.divq := by
  obtain ⟨-, h⟩ | ⟨-, h⟩ | ⟨p, -, -, h⟩ := prescalerPhase_cases s <;> rw [h]
@[simp] theorem prescalerPhase_ctrl (s : State) : (prescalerPhase s).1.ctrl = s.ctrl := by
  obtain ⟨-, h⟩ | ⟨-, h⟩ | ⟨p, -, -, h⟩ := prescalerPhase_cases s <;> rw [h]
@[simp] theorem prescalerPhase_frame (s : State) : (prescalerPhase s).1.frame = s.frame := by
  obtain ⟨-, h⟩ | ⟨-, h⟩ | ⟨p, -, -, h⟩ := prescalerPhase_cases s <;> rw [h]
@[simp] theorem prescalerPhase_txb (s : State) : (prescalerPhase s).1.txb = s.txb := by
  obtain ⟨-, h⟩ | ⟨-, h⟩ | ⟨p, -, -, h⟩ := prescalerPhase_cases s <;> rw [h]
@[simp] theorem prescalerPhase_rxc (s : State) : (prescalerPhase s).1.rxc = s.rxc := by
  obtain ⟨-, h⟩ | ⟨-, h⟩ | ⟨p, -, -, h⟩ := prescalerPhase_cases s <;> rw [h]
@[simp] theorem prescalerPhase_rxdata (s : State) : (prescalerPhase s).1.rxdata = s.rxdata := by
  obtain ⟨-, h⟩ | ⟨-, h⟩ | ⟨p, -, -, h⟩ := prescalerPhase_cases s <;> rw [h]
@[simp] theorem prescalerPhase_faulted (s : State) : (prescalerPhase s).1.faulted = s.faulted := by
  obtain ⟨-, h⟩ | ⟨-, h⟩ | ⟨p, -, -, h⟩ := prescalerPhase_cases s <;> rw [h]
@[simp] theorem prescalerPhase_refused (s : State) : (prescalerPhase s).1.refused = s.refused := by
  obtain ⟨-, h⟩ | ⟨-, h⟩ | ⟨p, -, -, h⟩ := prescalerPhase_cases s <;> rw [h]
@[simp] theorem prescalerPhase_program (s : State) : (prescalerPhase s).1.program = s.program := by
  obtain ⟨-, h⟩ | ⟨-, h⟩ | ⟨p, -, -, h⟩ := prescalerPhase_cases s <;> rw [h]
@[simp] theorem prescalerPhase_pc (s : State) : (prescalerPhase s).1.pc = s.pc := by
  obtain ⟨-, h⟩ | ⟨-, h⟩ | ⟨p, -, -, h⟩ := prescalerPhase_cases s <;> rw [h]
@[simp] theorem prescalerPhase_t (s : State) : (prescalerPhase s).1.t = s.t := by
  obtain ⟨-, h⟩ | ⟨-, h⟩ | ⟨p, -, -, h⟩ := prescalerPhase_cases s <;> rw [h]
@[simp] theorem prescalerPhase_halted (s : State) : (prescalerPhase s).1.halted = s.halted := by
  obtain ⟨-, h⟩ | ⟨-, h⟩ | ⟨p, -, -, h⟩ := prescalerPhase_cases s <;> rw [h]
@[simp] theorem prescalerPhase_turn (s : State) : (prescalerPhase s).1.turn = s.turn := by
  obtain ⟨-, h⟩ | ⟨-, h⟩ | ⟨p, -, -, h⟩ := prescalerPhase_cases s <;> rw [h]
@[simp] theorem prescalerPhase_txbFull (s : State) : (prescalerPhase s).1.txbFull = s.txbFull := by
  obtain ⟨-, h⟩ | ⟨-, h⟩ | ⟨p, -, -, h⟩ := prescalerPhase_cases s <;> rw [h]
@[simp] theorem prescalerPhase_tsrQ (s : State) : (prescalerPhase s).1.tsrQ = s.tsrQ := by
  obtain ⟨-, h⟩ | ⟨-, h⟩ | ⟨p, -, -, h⟩ := prescalerPhase_cases s <;> rw [h]
@[simp] theorem prescalerPhase_tsrActive (s : State) : (prescalerPhase s).1.tsrActive = s.tsrActive := by
  obtain ⟨-, h⟩ | ⟨-, h⟩ | ⟨p, -, -, h⟩ := prescalerPhase_cases s <;> rw [h]
@[simp] theorem prescalerPhase_txd (s : State) : (prescalerPhase s).1.txd = s.txd := by
  obtain ⟨-, h⟩ | ⟨-, h⟩ | ⟨p, -, -, h⟩ := prescalerPhase_cases s <;> rw [h]
@[simp] theorem prescalerPhase_garble (s : State) : (prescalerPhase s).1.garble = s.garble := by
  obtain ⟨-, h⟩ | ⟨-, h⟩ | ⟨p, -, -, h⟩ := prescalerPhase_cases s <;> rw [h]
@[simp] theorem prescalerPhase_wait (s : State) : (prescalerPhase s).1.wait = s.wait := by
  obtain ⟨-, h⟩ | ⟨-, h⟩ | ⟨p, -, -, h⟩ := prescalerPhase_cases s <;> rw [h]
@[simp] theorem prescalerPhase_draws (s : State) : (prescalerPhase s).1.draws = s.draws := by
  obtain ⟨-, h⟩ | ⟨-, h⟩ | ⟨p, -, -, h⟩ := prescalerPhase_cases s <;> rw [h]
@[simp] theorem prescalerPhase_os (s : State) : (prescalerPhase s).1.os = s.os := by
  obtain ⟨-, h⟩ | ⟨-, h⟩ | ⟨p, -, -, h⟩ := prescalerPhase_cases s <;> rw [h]
@[simp] theorem oversamplePhase_divh (b : Bool) (s : State) : (oversamplePhase b s).1.divh = s.divh := by
  obtain ⟨-, h⟩ | ⟨-, h⟩ := oversamplePhase_cases b s <;> rw [h]
@[simp] theorem oversamplePhase_divl (b : Bool) (s : State) : (oversamplePhase b s).1.divl = s.divl := by
  obtain ⟨-, h⟩ | ⟨-, h⟩ := oversamplePhase_cases b s <;> rw [h]
@[simp] theorem oversamplePhase_divq (b : Bool) (s : State) : (oversamplePhase b s).1.divq = s.divq := by
  obtain ⟨-, h⟩ | ⟨-, h⟩ := oversamplePhase_cases b s <;> rw [h]
@[simp] theorem oversamplePhase_ctrl (b : Bool) (s : State) : (oversamplePhase b s).1.ctrl = s.ctrl := by
  obtain ⟨-, h⟩ | ⟨-, h⟩ := oversamplePhase_cases b s <;> rw [h]
@[simp] theorem oversamplePhase_frame (b : Bool) (s : State) : (oversamplePhase b s).1.frame = s.frame := by
  obtain ⟨-, h⟩ | ⟨-, h⟩ := oversamplePhase_cases b s <;> rw [h]
@[simp] theorem oversamplePhase_txb (b : Bool) (s : State) : (oversamplePhase b s).1.txb = s.txb := by
  obtain ⟨-, h⟩ | ⟨-, h⟩ := oversamplePhase_cases b s <;> rw [h]
@[simp] theorem oversamplePhase_rxc (b : Bool) (s : State) : (oversamplePhase b s).1.rxc = s.rxc := by
  obtain ⟨-, h⟩ | ⟨-, h⟩ := oversamplePhase_cases b s <;> rw [h]
@[simp] theorem oversamplePhase_rxdata (b : Bool) (s : State) : (oversamplePhase b s).1.rxdata = s.rxdata := by
  obtain ⟨-, h⟩ | ⟨-, h⟩ := oversamplePhase_cases b s <;> rw [h]
@[simp] theorem oversamplePhase_faulted (b : Bool) (s : State) : (oversamplePhase b s).1.faulted = s.faulted := by
  obtain ⟨-, h⟩ | ⟨-, h⟩ := oversamplePhase_cases b s <;> rw [h]
@[simp] theorem oversamplePhase_refused (b : Bool) (s : State) : (oversamplePhase b s).1.refused = s.refused := by
  obtain ⟨-, h⟩ | ⟨-, h⟩ := oversamplePhase_cases b s <;> rw [h]
@[simp] theorem oversamplePhase_program (b : Bool) (s : State) : (oversamplePhase b s).1.program = s.program := by
  obtain ⟨-, h⟩ | ⟨-, h⟩ := oversamplePhase_cases b s <;> rw [h]
@[simp] theorem oversamplePhase_pc (b : Bool) (s : State) : (oversamplePhase b s).1.pc = s.pc := by
  obtain ⟨-, h⟩ | ⟨-, h⟩ := oversamplePhase_cases b s <;> rw [h]
@[simp] theorem oversamplePhase_t (b : Bool) (s : State) : (oversamplePhase b s).1.t = s.t := by
  obtain ⟨-, h⟩ | ⟨-, h⟩ := oversamplePhase_cases b s <;> rw [h]
@[simp] theorem oversamplePhase_halted (b : Bool) (s : State) : (oversamplePhase b s).1.halted = s.halted := by
  obtain ⟨-, h⟩ | ⟨-, h⟩ := oversamplePhase_cases b s <;> rw [h]
@[simp] theorem oversamplePhase_turn (b : Bool) (s : State) : (oversamplePhase b s).1.turn = s.turn := by
  obtain ⟨-, h⟩ | ⟨-, h⟩ := oversamplePhase_cases b s <;> rw [h]
@[simp] theorem oversamplePhase_txbFull (b : Bool) (s : State) : (oversamplePhase b s).1.txbFull = s.txbFull := by
  obtain ⟨-, h⟩ | ⟨-, h⟩ := oversamplePhase_cases b s <;> rw [h]
@[simp] theorem oversamplePhase_tsrQ (b : Bool) (s : State) : (oversamplePhase b s).1.tsrQ = s.tsrQ := by
  obtain ⟨-, h⟩ | ⟨-, h⟩ := oversamplePhase_cases b s <;> rw [h]
@[simp] theorem oversamplePhase_tsrActive (b : Bool) (s : State) : (oversamplePhase b s).1.tsrActive = s.tsrActive := by
  obtain ⟨-, h⟩ | ⟨-, h⟩ := oversamplePhase_cases b s <;> rw [h]
@[simp] theorem oversamplePhase_txd (b : Bool) (s : State) : (oversamplePhase b s).1.txd = s.txd := by
  obtain ⟨-, h⟩ | ⟨-, h⟩ := oversamplePhase_cases b s <;> rw [h]
@[simp] theorem oversamplePhase_garble (b : Bool) (s : State) : (oversamplePhase b s).1.garble = s.garble := by
  obtain ⟨-, h⟩ | ⟨-, h⟩ := oversamplePhase_cases b s <;> rw [h]
@[simp] theorem oversamplePhase_wait (b : Bool) (s : State) : (oversamplePhase b s).1.wait = s.wait := by
  obtain ⟨-, h⟩ | ⟨-, h⟩ := oversamplePhase_cases b s <;> rw [h]
@[simp] theorem oversamplePhase_draws (b : Bool) (s : State) : (oversamplePhase b s).1.draws = s.draws := by
  obtain ⟨-, h⟩ | ⟨-, h⟩ := oversamplePhase_cases b s <;> rw [h]
@[simp] theorem oversamplePhase_presc (b : Bool) (s : State) : (oversamplePhase b s).1.presc = s.presc := by
  obtain ⟨-, h⟩ | ⟨-, h⟩ := oversamplePhase_cases b s <;> rw [h]
@[simp] theorem shiftPhase_divh (b : Bool) (s : State) : (shiftPhase b s).divh = s.divh := by
  obtain ⟨-, h⟩ | ⟨-, -, h⟩ | ⟨-, x, r, -, h⟩ := shiftPhase_cases b s <;> rw [h]
@[simp] theorem shiftPhase_divl (b : Bool) (s : State) : (shiftPhase b s).divl = s.divl := by
  obtain ⟨-, h⟩ | ⟨-, -, h⟩ | ⟨-, x, r, -, h⟩ := shiftPhase_cases b s <;> rw [h]
@[simp] theorem shiftPhase_divq (b : Bool) (s : State) : (shiftPhase b s).divq = s.divq := by
  obtain ⟨-, h⟩ | ⟨-, -, h⟩ | ⟨-, x, r, -, h⟩ := shiftPhase_cases b s <;> rw [h]
@[simp] theorem shiftPhase_ctrl (b : Bool) (s : State) : (shiftPhase b s).ctrl = s.ctrl := by
  obtain ⟨-, h⟩ | ⟨-, -, h⟩ | ⟨-, x, r, -, h⟩ := shiftPhase_cases b s <;> rw [h]
@[simp] theorem shiftPhase_frame (b : Bool) (s : State) : (shiftPhase b s).frame = s.frame := by
  obtain ⟨-, h⟩ | ⟨-, -, h⟩ | ⟨-, x, r, -, h⟩ := shiftPhase_cases b s <;> rw [h]
@[simp] theorem shiftPhase_txb (b : Bool) (s : State) : (shiftPhase b s).txb = s.txb := by
  obtain ⟨-, h⟩ | ⟨-, -, h⟩ | ⟨-, x, r, -, h⟩ := shiftPhase_cases b s <;> rw [h]
@[simp] theorem shiftPhase_rxc (b : Bool) (s : State) : (shiftPhase b s).rxc = s.rxc := by
  obtain ⟨-, h⟩ | ⟨-, -, h⟩ | ⟨-, x, r, -, h⟩ := shiftPhase_cases b s <;> rw [h]
@[simp] theorem shiftPhase_rxdata (b : Bool) (s : State) : (shiftPhase b s).rxdata = s.rxdata := by
  obtain ⟨-, h⟩ | ⟨-, -, h⟩ | ⟨-, x, r, -, h⟩ := shiftPhase_cases b s <;> rw [h]
@[simp] theorem shiftPhase_faulted (b : Bool) (s : State) : (shiftPhase b s).faulted = s.faulted := by
  obtain ⟨-, h⟩ | ⟨-, -, h⟩ | ⟨-, x, r, -, h⟩ := shiftPhase_cases b s <;> rw [h]
@[simp] theorem shiftPhase_refused (b : Bool) (s : State) : (shiftPhase b s).refused = s.refused := by
  obtain ⟨-, h⟩ | ⟨-, -, h⟩ | ⟨-, x, r, -, h⟩ := shiftPhase_cases b s <;> rw [h]
@[simp] theorem shiftPhase_program (b : Bool) (s : State) : (shiftPhase b s).program = s.program := by
  obtain ⟨-, h⟩ | ⟨-, -, h⟩ | ⟨-, x, r, -, h⟩ := shiftPhase_cases b s <;> rw [h]
@[simp] theorem shiftPhase_pc (b : Bool) (s : State) : (shiftPhase b s).pc = s.pc := by
  obtain ⟨-, h⟩ | ⟨-, -, h⟩ | ⟨-, x, r, -, h⟩ := shiftPhase_cases b s <;> rw [h]
@[simp] theorem shiftPhase_t (b : Bool) (s : State) : (shiftPhase b s).t = s.t := by
  obtain ⟨-, h⟩ | ⟨-, -, h⟩ | ⟨-, x, r, -, h⟩ := shiftPhase_cases b s <;> rw [h]
@[simp] theorem shiftPhase_halted (b : Bool) (s : State) : (shiftPhase b s).halted = s.halted := by
  obtain ⟨-, h⟩ | ⟨-, -, h⟩ | ⟨-, x, r, -, h⟩ := shiftPhase_cases b s <;> rw [h]
@[simp] theorem shiftPhase_turn (b : Bool) (s : State) : (shiftPhase b s).turn = s.turn := by
  obtain ⟨-, h⟩ | ⟨-, -, h⟩ | ⟨-, x, r, -, h⟩ := shiftPhase_cases b s <;> rw [h]
@[simp] theorem shiftPhase_presc (b : Bool) (s : State) : (shiftPhase b s).presc = s.presc := by
  obtain ⟨-, h⟩ | ⟨-, -, h⟩ | ⟨-, x, r, -, h⟩ := shiftPhase_cases b s <;> rw [h]
@[simp] theorem shiftPhase_os (b : Bool) (s : State) : (shiftPhase b s).os = s.os := by
  obtain ⟨-, h⟩ | ⟨-, -, h⟩ | ⟨-, x, r, -, h⟩ := shiftPhase_cases b s <;> rw [h]
@[simp] theorem shiftPhase_txbFull (b : Bool) (s : State) : (shiftPhase b s).txbFull = s.txbFull := by
  obtain ⟨-, h⟩ | ⟨-, -, h⟩ | ⟨-, x, r, -, h⟩ := shiftPhase_cases b s <;> rw [h]
@[simp] theorem shiftPhase_garble (b : Bool) (s : State) : (shiftPhase b s).garble = s.garble := by
  obtain ⟨-, h⟩ | ⟨-, -, h⟩ | ⟨-, x, r, -, h⟩ := shiftPhase_cases b s <;> rw [h]
@[simp] theorem shiftPhase_wait (b : Bool) (s : State) : (shiftPhase b s).wait = s.wait := by
  obtain ⟨-, h⟩ | ⟨-, -, h⟩ | ⟨-, x, r, -, h⟩ := shiftPhase_cases b s <;> rw [h]
@[simp] theorem loadPhase_divh (s : State) : (loadPhase s).divh = s.divh := by
  obtain h | ⟨-, -, -, b, f, -, -, h⟩ := loadPhase_cases s <;> rw [h]
@[simp] theorem loadPhase_divl (s : State) : (loadPhase s).divl = s.divl := by
  obtain h | ⟨-, -, -, b, f, -, -, h⟩ := loadPhase_cases s <;> rw [h]
@[simp] theorem loadPhase_divq (s : State) : (loadPhase s).divq = s.divq := by
  obtain h | ⟨-, -, -, b, f, -, -, h⟩ := loadPhase_cases s <;> rw [h]
@[simp] theorem loadPhase_ctrl (s : State) : (loadPhase s).ctrl = s.ctrl := by
  obtain h | ⟨-, -, -, b, f, -, -, h⟩ := loadPhase_cases s <;> rw [h]
@[simp] theorem loadPhase_frame (s : State) : (loadPhase s).frame = s.frame := by
  obtain h | ⟨-, -, -, b, f, -, -, h⟩ := loadPhase_cases s <;> rw [h]
@[simp] theorem loadPhase_txb (s : State) : (loadPhase s).txb = s.txb := by
  obtain h | ⟨-, -, -, b, f, -, -, h⟩ := loadPhase_cases s <;> rw [h]
@[simp] theorem loadPhase_rxc (s : State) : (loadPhase s).rxc = s.rxc := by
  obtain h | ⟨-, -, -, b, f, -, -, h⟩ := loadPhase_cases s <;> rw [h]
@[simp] theorem loadPhase_rxdata (s : State) : (loadPhase s).rxdata = s.rxdata := by
  obtain h | ⟨-, -, -, b, f, -, -, h⟩ := loadPhase_cases s <;> rw [h]
@[simp] theorem loadPhase_faulted (s : State) : (loadPhase s).faulted = s.faulted := by
  obtain h | ⟨-, -, -, b, f, -, -, h⟩ := loadPhase_cases s <;> rw [h]
@[simp] theorem loadPhase_refused (s : State) : (loadPhase s).refused = s.refused := by
  obtain h | ⟨-, -, -, b, f, -, -, h⟩ := loadPhase_cases s <;> rw [h]
@[simp] theorem loadPhase_program (s : State) : (loadPhase s).program = s.program := by
  obtain h | ⟨-, -, -, b, f, -, -, h⟩ := loadPhase_cases s <;> rw [h]
@[simp] theorem loadPhase_pc (s : State) : (loadPhase s).pc = s.pc := by
  obtain h | ⟨-, -, -, b, f, -, -, h⟩ := loadPhase_cases s <;> rw [h]
@[simp] theorem loadPhase_t (s : State) : (loadPhase s).t = s.t := by
  obtain h | ⟨-, -, -, b, f, -, -, h⟩ := loadPhase_cases s <;> rw [h]
@[simp] theorem loadPhase_halted (s : State) : (loadPhase s).halted = s.halted := by
  obtain h | ⟨-, -, -, b, f, -, -, h⟩ := loadPhase_cases s <;> rw [h]
@[simp] theorem loadPhase_turn (s : State) : (loadPhase s).turn = s.turn := by
  obtain h | ⟨-, -, -, b, f, -, -, h⟩ := loadPhase_cases s <;> rw [h]
@[simp] theorem loadPhase_presc (s : State) : (loadPhase s).presc = s.presc := by
  obtain h | ⟨-, -, -, b, f, -, -, h⟩ := loadPhase_cases s <;> rw [h]
@[simp] theorem loadPhase_os (s : State) : (loadPhase s).os = s.os := by
  obtain h | ⟨-, -, -, b, f, -, -, h⟩ := loadPhase_cases s <;> rw [h]
@[simp] theorem loadPhase_tsrActive (s : State) : (loadPhase s).tsrActive = s.tsrActive := by
  obtain h | ⟨-, -, -, b, f, -, -, h⟩ := loadPhase_cases s <;> rw [h]
@[simp] theorem loadPhase_txd (s : State) : (loadPhase s).txd = s.txd := by
  obtain h | ⟨-, -, -, b, f, -, -, h⟩ := loadPhase_cases s <;> rw [h]
@[simp] theorem loadPhase_garble (s : State) : (loadPhase s).garble = s.garble := by
  obtain h | ⟨-, -, -, b, f, -, -, h⟩ := loadPhase_cases s <;> rw [h]
@[simp] theorem loadPhase_wait (s : State) : (loadPhase s).wait = s.wait := by
  obtain h | ⟨-, -, -, b, f, -, -, h⟩ := loadPhase_cases s <;> rw [h]
@[simp] theorem loadPhase_draws (s : State) : (loadPhase s).draws = s.draws := by
  obtain h | ⟨-, -, -, b, f, -, -, h⟩ := loadPhase_cases s <;> rw [h]
@[simp] theorem garblePhase_divh (s : State) : (garblePhase s).divh = s.divh := by
  obtain ⟨-, h⟩ | ⟨-, h⟩ := garblePhase_cases s <;> rw [h]
@[simp] theorem garblePhase_divl (s : State) : (garblePhase s).divl = s.divl := by
  obtain ⟨-, h⟩ | ⟨-, h⟩ := garblePhase_cases s <;> rw [h]
@[simp] theorem garblePhase_divq (s : State) : (garblePhase s).divq = s.divq := by
  obtain ⟨-, h⟩ | ⟨-, h⟩ := garblePhase_cases s <;> rw [h]
@[simp] theorem garblePhase_ctrl (s : State) : (garblePhase s).ctrl = s.ctrl := by
  obtain ⟨-, h⟩ | ⟨-, h⟩ := garblePhase_cases s <;> rw [h]
@[simp] theorem garblePhase_frame (s : State) : (garblePhase s).frame = s.frame := by
  obtain ⟨-, h⟩ | ⟨-, h⟩ := garblePhase_cases s <;> rw [h]
@[simp] theorem garblePhase_txb (s : State) : (garblePhase s).txb = s.txb := by
  obtain ⟨-, h⟩ | ⟨-, h⟩ := garblePhase_cases s <;> rw [h]
@[simp] theorem garblePhase_rxc (s : State) : (garblePhase s).rxc = s.rxc := by
  obtain ⟨-, h⟩ | ⟨-, h⟩ := garblePhase_cases s <;> rw [h]
@[simp] theorem garblePhase_rxdata (s : State) : (garblePhase s).rxdata = s.rxdata := by
  obtain ⟨-, h⟩ | ⟨-, h⟩ := garblePhase_cases s <;> rw [h]
@[simp] theorem garblePhase_faulted (s : State) : (garblePhase s).faulted = s.faulted := by
  obtain ⟨-, h⟩ | ⟨-, h⟩ := garblePhase_cases s <;> rw [h]
@[simp] theorem garblePhase_refused (s : State) : (garblePhase s).refused = s.refused := by
  obtain ⟨-, h⟩ | ⟨-, h⟩ := garblePhase_cases s <;> rw [h]
@[simp] theorem garblePhase_program (s : State) : (garblePhase s).program = s.program := by
  obtain ⟨-, h⟩ | ⟨-, h⟩ := garblePhase_cases s <;> rw [h]
@[simp] theorem garblePhase_pc (s : State) : (garblePhase s).pc = s.pc := by
  obtain ⟨-, h⟩ | ⟨-, h⟩ := garblePhase_cases s <;> rw [h]
@[simp] theorem garblePhase_t (s : State) : (garblePhase s).t = s.t := by
  obtain ⟨-, h⟩ | ⟨-, h⟩ := garblePhase_cases s <;> rw [h]
@[simp] theorem garblePhase_halted (s : State) : (garblePhase s).halted = s.halted := by
  obtain ⟨-, h⟩ | ⟨-, h⟩ := garblePhase_cases s <;> rw [h]
@[simp] theorem garblePhase_turn (s : State) : (garblePhase s).turn = s.turn := by
  obtain ⟨-, h⟩ | ⟨-, h⟩ := garblePhase_cases s <;> rw [h]
@[simp] theorem garblePhase_presc (s : State) : (garblePhase s).presc = s.presc := by
  obtain ⟨-, h⟩ | ⟨-, h⟩ := garblePhase_cases s <;> rw [h]
@[simp] theorem garblePhase_os (s : State) : (garblePhase s).os = s.os := by
  obtain ⟨-, h⟩ | ⟨-, h⟩ := garblePhase_cases s <;> rw [h]
@[simp] theorem garblePhase_txbFull (s : State) : (garblePhase s).txbFull = s.txbFull := by
  obtain ⟨-, h⟩ | ⟨-, h⟩ := garblePhase_cases s <;> rw [h]
@[simp] theorem garblePhase_tsrQ (s : State) : (garblePhase s).tsrQ = s.tsrQ := by
  obtain ⟨-, h⟩ | ⟨-, h⟩ := garblePhase_cases s <;> rw [h]
@[simp] theorem garblePhase_tsrActive (s : State) : (garblePhase s).tsrActive = s.tsrActive := by
  obtain ⟨-, h⟩ | ⟨-, h⟩ := garblePhase_cases s <;> rw [h]
@[simp] theorem garblePhase_txd (s : State) : (garblePhase s).txd = s.txd := by
  obtain ⟨-, h⟩ | ⟨-, h⟩ := garblePhase_cases s <;> rw [h]
@[simp] theorem garblePhase_wait (s : State) : (garblePhase s).wait = s.wait := by
  obtain ⟨-, h⟩ | ⟨-, h⟩ := garblePhase_cases s <;> rw [h]
@[simp] theorem garblePhase_draws (s : State) : (garblePhase s).draws = s.draws := by
  obtain ⟨-, h⟩ | ⟨-, h⟩ := garblePhase_cases s <;> rw [h]

/-! What a whole cycle leaves unchanged, and the divider's part of it. -/

@[simp] theorem clockCycle_divh (s : State) : (clockCycle s).divh = s.divh := by simp [clockCycle]
@[simp] theorem clockCycle_divl (s : State) : (clockCycle s).divl = s.divl := by simp [clockCycle]
@[simp] theorem clockCycle_divq (s : State) : (clockCycle s).divq = s.divq := by simp [clockCycle]
@[simp] theorem clockCycle_ctrl (s : State) : (clockCycle s).ctrl = s.ctrl := by simp [clockCycle]
@[simp] theorem clockCycle_frame (s : State) : (clockCycle s).frame = s.frame := by simp [clockCycle]
@[simp] theorem clockCycle_txb (s : State) : (clockCycle s).txb = s.txb := by simp [clockCycle]
@[simp] theorem clockCycle_rxc (s : State) : (clockCycle s).rxc = s.rxc := by simp [clockCycle]
@[simp] theorem clockCycle_rxdata (s : State) : (clockCycle s).rxdata = s.rxdata := by simp [clockCycle]
@[simp] theorem clockCycle_faulted (s : State) : (clockCycle s).faulted = s.faulted := by simp [clockCycle]
@[simp] theorem clockCycle_refused (s : State) : (clockCycle s).refused = s.refused := by simp [clockCycle]
@[simp] theorem clockCycle_program (s : State) : (clockCycle s).program = s.program := by simp [clockCycle]
@[simp] theorem clockCycle_pc (s : State) : (clockCycle s).pc = s.pc := by simp [clockCycle]
@[simp] theorem clockCycle_t (s : State) : (clockCycle s).t = s.t := by simp [clockCycle]
@[simp] theorem clockCycle_halted (s : State) : (clockCycle s).halted = s.halted := by simp [clockCycle]
@[simp] theorem clockCycle_turn (s : State) : (clockCycle s).turn = s.turn := by simp [clockCycle]
@[simp] theorem clockCycle_wait (s : State) : (clockCycle s).wait = s.wait - 1 := by simp [clockCycle]
@[simp] theorem clockCycle_presc (s : State) : (clockCycle s).presc = (prescalerPhase s).1.presc := by simp [clockCycle]
@[simp] theorem clockCycle_os (s : State) :
    (clockCycle s).os = (oversamplePhase (prescalerPhase s).2 (prescalerPhase s).1).1.os := by simp [clockCycle]
@[simp] theorem clockCycle_marked (s : State) : (clockCycle s).marked = s.marked := by simp [State.marked]
@[simp] theorem clockCycle_txen (s : State) : (clockCycle s).txen = s.txen := by simp [State.txen]

/-- Cycles compose. -/
theorem clockCycles_add (m n : Nat) (s : State) : clockCycles (m + n) s = clockCycles n (clockCycles m s) := by
  induction m generalizing s with
  | zero => simp [clockCycles]
  | succ m ih => rw [Nat.add_right_comm]; exact ih (clockCycle s)

/-- The frame's length (R70). -/
theorem frameBits_length (b f : Byte) : (frameBits b f).length = 1 + dataBits f + stopBits f := by
  simp [frameBits]; omega

theorem dataBits_le (f : Byte) : dataBits f ≤ 8 := by
  unfold dataBits; have := (f.extractLsb' 1 2).isLt; omega

theorem stopBits_le (f : Byte) : stopBits f ≤ 2 := by
  unfold stopBits; have := (f.extractLsb' 3 1).isLt; omega

end Sys2Proof.Machine
end

