-- ==== Sys2Proof/Laws/PerInstr.lean ====
section
/-! SUPPORT. Statements about every instruction as syntax, one lemma per constructor. -/

namespace Sys2Proof.Laws.EncodeFields

/-- The direction bit of the accesses the table gives (spec/30_encoding.md R37); a RESERVED word carries its own. -/
def direction : Instr → BitVec 1
  | .rdDivh => 0
  | .rdDivl => 0
  | .rdCtrl => 0
  | .rdFrame => 0
  | .rdStatus => 0
  | .rdData => 0
  | .wrDivh _ => 1
  | .wrDivl _ => 1
  | .wrCtrl _ => 1
  | .wrFrame _ => 1
  | .wrStatus _ => 1
  | .wrData _ => 1
  | .reserved w _ _ => w
  | .invalid _ _ => 0

/-- The datum of a write, 0 for a read; RESERVED and INVALID words carry their own (R35). -/
def datum : Instr → Byte
  | .rdDivh => 0
  | .rdDivl => 0
  | .rdCtrl => 0
  | .rdFrame => 0
  | .rdStatus => 0
  | .rdData => 0
  | .wrDivh d => d
  | .wrDivl d => d
  | .wrCtrl d => d
  | .wrFrame d => d
  | .wrStatus d => d
  | .wrData d => d
  | .reserved _ _ d => d
  | .invalid _ d => d

/-- The word of an instruction carries its direction and its datum in the fields of R35. -/
def Statement (i : Instr) : Prop := fieldW (encode i) = direction i ∧ fieldD (encode i) = datum i

/-- Field W of a packed word. -/
theorem fieldW_packWord (w : BitVec 1) (a : Offset) (d : Byte) : fieldW (packWord w a d) = w := by
  apply BitVec.eq_of_getLsbD_eq
  intro i hi
  simp only [fieldW, packWord, BitVec.getLsbD_extractLsb', BitVec.getLsbD_append]
  interval_cases i <;> simp

/-- Field A of a packed word. -/
theorem fieldA_packWord (w : BitVec 1) (a : Offset) (d : Byte) : fieldA (packWord w a d) = a := by
  apply BitVec.eq_of_getLsbD_eq
  intro i hi
  simp only [fieldA, packWord, BitVec.getLsbD_extractLsb', BitVec.getLsbD_append]
  interval_cases i <;> simp

/-- Field D of a packed word. -/
theorem fieldD_packWord (w : BitVec 1) (a : Offset) (d : Byte) : fieldD (packWord w a d) = d := by
  apply BitVec.eq_of_getLsbD_eq
  intro i hi
  simp only [fieldD, packWord, BitVec.getLsbD_extractLsb', BitVec.getLsbD_append]
  interval_cases i <;> simp

theorem rdDivh : Statement .rdDivh := ⟨rfl, rfl⟩
theorem rdDivl : Statement .rdDivl := ⟨rfl, rfl⟩
theorem rdCtrl : Statement .rdCtrl := ⟨rfl, rfl⟩
theorem rdFrame : Statement .rdFrame := ⟨rfl, rfl⟩
theorem rdStatus : Statement .rdStatus := ⟨rfl, rfl⟩
theorem rdData : Statement .rdData := ⟨rfl, rfl⟩
theorem wrDivh (d : Byte) : Statement (.wrDivh d) := ⟨fieldW_packWord _ _ _, fieldD_packWord _ _ _⟩
theorem wrDivl (d : Byte) : Statement (.wrDivl d) := ⟨fieldW_packWord _ _ _, fieldD_packWord _ _ _⟩
theorem wrCtrl (d : Byte) : Statement (.wrCtrl d) := ⟨fieldW_packWord _ _ _, fieldD_packWord _ _ _⟩
theorem wrFrame (d : Byte) : Statement (.wrFrame d) := ⟨fieldW_packWord _ _ _, fieldD_packWord _ _ _⟩
theorem wrStatus (d : Byte) : Statement (.wrStatus d) := ⟨fieldW_packWord _ _ _, fieldD_packWord _ _ _⟩
theorem wrData (d : Byte) : Statement (.wrData d) := ⟨fieldW_packWord _ _ _, fieldD_packWord _ _ _⟩
theorem reserved (w : BitVec 1) (a : Offset) (d : Byte) : Statement (.reserved w a d) :=
  ⟨fieldW_packWord _ _ _, fieldD_packWord _ _ _⟩
theorem invalid (a : Offset) (d : Byte) : Statement (.invalid a d) := ⟨fieldW_packWord _ _ _, fieldD_packWord _ _ _⟩

end Sys2Proof.Laws.EncodeFields
end

