-- ==== Sys2Proof/Laws/Decode.lean ====
section
/-! SUPPORT. The decoder on a word given by its fields, and the words of the host statements. -/

namespace Sys2Proof

open Sys2Proof.Laws.EncodeFields

/-- The decoder on a packed word: R37's rows on the fields. -/
theorem decode_packWord (w : BitVec 1) (a : Offset) (d : Byte) :
    decode (packWord w a d) =
      if 6 ≤ a.toNat then .reserved w a d
      else if w = 0#1 ∧ d ≠ 0#8 then .invalid a d
      else if w = 0#1 then readAt a
      else writeAt a d := by
  rw [decode, fieldW_packWord, fieldA_packWord, fieldD_packWord]

/-- A word is its three fields. -/
theorem packWord_fields (w : BusWord) : packWord (fieldW w) (fieldA w) (fieldD w) = w := by
  apply BitVec.eq_of_getLsbD_eq
  intro i hi
  simp only [fieldW, fieldA, fieldD, packWord, BitVec.getLsbD_extractLsb', BitVec.getLsbD_append]
  interval_cases i <;> simp

/-- Field W as the bit it is. -/
theorem fieldW_eq_ofBool (w : BusWord) : fieldW w = BitVec.ofBool (w.getLsbD 11) := by
  apply BitVec.eq_of_getLsbD_eq
  intro i hi
  interval_cases i
  simp [fieldW]

/-- The word of `wr REG, v` by its fields. -/
theorem wrWord_eq_packWord (r : Machine.Reg) (v : Byte) : Machine.wrWord r v = packWord 1 r.offset v := by
  apply BitVec.eq_of_getLsbD_eq
  intro i hi
  simp only [Machine.wrWord, packWord, BitVec.getLsbD_append, BitVec.getLsbD_or, BitVec.getLsbD_shiftLeft,
    BitVec.getLsbD_setWidth]
  interval_cases i <;> cases r <;> simp [Machine.Reg.offset]

/-- The word of `rd REG` by its fields. -/
theorem rdWord_eq_packWord (r : Machine.Reg) : Machine.rdWord r = packWord 0 r.offset 0 := by
  cases r <;> decide

end Sys2Proof
end

