-- ==== Sys2Proof/Laws/Exec.lean ====
section
/-! SUPPORT. What each access can do, said once per instruction: when it answers a next state, and which. -/

namespace Sys2Proof.Machine

open Sys2Proof.Safety

variable {s t : State} {d : Byte}

theorem execRdDivh_eq_next : execRdDivh s = .next t ↔ Unmarked s ∧ ∃ v, s.divh = some v ∧ t = s.setT v := by
  rw [execRdDivh, unlessMarked_eq_next, readCell_eq_next]

theorem execRdDivl_eq_next : execRdDivl s = .next t ↔ Unmarked s ∧ ∃ v, s.divl = some v ∧ t = s.setT v := by
  rw [execRdDivl, unlessMarked_eq_next, readCell_eq_next]

theorem execRdCtrl_eq_next : execRdCtrl s = .next t ↔ Unmarked s ∧ t = s.setT (ctrlByte s.rxen s.txen) := by
  exact unlessMarked_next_eq_next

theorem execRdFrame_eq_next : execRdFrame s = .next t ↔ Unmarked s ∧ ∃ v, s.frame = some v ∧ t = s.setT v := by
  rw [execRdFrame, unlessMarked_eq_next, readCell_eq_next]

theorem execRdStatus_eq_next : execRdStatus s = .next t ↔ Unmarked s ∧ t = s.setT s.statusByte := by
  exact unlessMarked_next_eq_next

theorem execRdData_eq_next : execRdData s = .next t ↔ Unmarked s ∧ t = s.setT s.rxdata := by
  exact unlessMarked_next_eq_next

theorem execWrDivh_eq_next :
    execWrDivh d s = .next t ↔ Unmarked s ∧ t = s.garbleIfBusy.setDivh d := by
  exact unlessMarked_next_eq_next

theorem execWrDivl_eq_next :
    execWrDivl d s = .next t ↔ Unmarked s ∧ t = (s.garbleIfBusy.commitDivisor d).setDivl d := by
  exact unlessMarked_next_eq_next

theorem execWrCtrl_eq_next :
    execWrCtrl d s = .next t ↔ Unmarked s ∧ d &&& ctrlReserved = 0#8 ∧
      ¬(d.getLsbD 3 = false ∧ s.txen = true ∧ s.txIdle = false) ∧
      t = s.setCtrl (ctrlByte (d.getLsbD 4) (d.getLsbD 3)) := by
  rw [execWrCtrl, unlessMarked_eq_next]
  by_cases h1 : d &&& ctrlReserved = 0#8
  · by_cases h2 : d.getLsbD 3 = false ∧ s.txen = true ∧ s.txIdle = false
    · rw [if_neg (not_not.mpr h1), if_pos h2]
      simp only [reduceCtorEq, and_false, false_iff]
      rintro ⟨-, -, h, -⟩
      exact h h2
    · rw [if_neg (not_not.mpr h1), if_neg h2, next_eq_next]
      exact and_congr_right fun _ => ⟨fun h => ⟨h1, h2, h⟩, fun h => h.2.2⟩
  · simp [h1]

theorem execWrFrame_eq_next :
    execWrFrame d s = .next t ↔ Unmarked s ∧ d &&& frameReserved = 0#8 ∧
      t = s.garbleIfBusy.setFrame d := by
  rw [execWrFrame, unlessMarked_eq_next]
  by_cases h1 : d &&& frameReserved = 0#8
  · rw [if_neg (not_not.mpr h1), next_eq_next]
    exact and_congr_right fun _ => ⟨fun h => ⟨h1, h⟩, fun h => h.2⟩
  · simp [h1]

theorem execWrStatus_ne_next : execWrStatus d s ≠ .next t := by
  simp [execWrStatus, unlessMarked_eq_next]

theorem execWrData_eq_next :
    execWrData d s = .next t ↔ Unmarked s ∧ s.txen = true ∧ s.divq ≠ none ∧ s.frame ≠ none ∧ s.txbFull = false ∧
      t = s.fillTxb d := by
  rw [execWrData, unlessMarked_eq_next]
  by_cases h1 : s.txen = false
  · simp [h1]
  · by_cases h2 : s.divq = none ∨ s.frame = none
    · rw [if_neg h1, if_pos h2]
      simp only [reduceCtorEq, and_false, false_iff]
      rintro ⟨-, -, hq, hf, -⟩
      exact h2.elim hq hf
    · by_cases h3 : s.txbFull = true
      · simp [h1, h2, h3]
      · rw [if_neg h1, if_neg h2, if_neg h3, next_eq_next]
        rw [not_or] at h2
        exact and_congr_right fun _ => ⟨fun h => ⟨by simpa using h1, h2.1, h2.2, by simpa using h3, h⟩, fun h => h.2.2.2.2⟩

theorem execReserved_ne_next {w : BitVec 1} {a : Offset} : execReserved w a d s ≠ .next t := by
  simp [execReserved, unlessMarked_eq_next]

theorem execInvalid_ne_next {a : Offset} : execInvalid a d s ≠ .next t := by
  simp [execInvalid, unlessMarked_eq_next]

/-- What an access can do: a read writes t, and each write makes its own update under its own conditions. -/
theorem exec_cases {i : Instr} (h : exec i s = .next t) : Unmarked s ∧ (
    (∃ v, t = s.setT v ∧
      (i = .rdDivh ∨ i = .rdDivl ∨ i = .rdCtrl ∨ i = .rdFrame ∨ i = .rdStatus ∨ i = .rdData)) ∨
    (∃ d, i = .wrDivh d ∧ t = s.garbleIfBusy.setDivh d) ∨
    (∃ d, i = .wrDivl d ∧ t = (s.garbleIfBusy.commitDivisor d).setDivl d) ∨
    (∃ d, i = .wrCtrl d ∧ d &&& ctrlReserved = 0#8 ∧
      ¬(d.getLsbD 3 = false ∧ s.txen = true ∧ s.txIdle = false) ∧
      t = s.setCtrl (ctrlByte (d.getLsbD 4) (d.getLsbD 3))) ∨
    (∃ d, i = .wrFrame d ∧ d &&& frameReserved = 0#8 ∧ t = s.garbleIfBusy.setFrame d) ∨
    (∃ d, i = .wrData d ∧ s.txen = true ∧ s.divq ≠ none ∧ s.frame ≠ none ∧ s.txbFull = false ∧ t = s.fillTxb d)) := by
  cases i <;> simp only [exec] at h
  case rdDivh => obtain ⟨u, v, -, rfl⟩ := execRdDivh_eq_next.1 h; exact ⟨u, .inl ⟨v, rfl, by simp⟩⟩
  case rdDivl => obtain ⟨u, v, -, rfl⟩ := execRdDivl_eq_next.1 h; exact ⟨u, .inl ⟨v, rfl, by simp⟩⟩
  case rdCtrl => obtain ⟨u, rfl⟩ := execRdCtrl_eq_next.1 h; exact ⟨u, .inl ⟨_, rfl, by simp⟩⟩
  case rdFrame => obtain ⟨u, v, -, rfl⟩ := execRdFrame_eq_next.1 h; exact ⟨u, .inl ⟨v, rfl, by simp⟩⟩
  case rdStatus => obtain ⟨u, rfl⟩ := execRdStatus_eq_next.1 h; exact ⟨u, .inl ⟨_, rfl, by simp⟩⟩
  case rdData => obtain ⟨u, rfl⟩ := execRdData_eq_next.1 h; exact ⟨u, .inl ⟨_, rfl, by simp⟩⟩
  case wrDivh d => obtain ⟨u, e⟩ := execWrDivh_eq_next.1 h; exact ⟨u, .inr (.inl ⟨d, rfl, e⟩)⟩
  case wrDivl d => obtain ⟨u, e⟩ := execWrDivl_eq_next.1 h; exact ⟨u, .inr (.inr (.inl ⟨d, rfl, e⟩))⟩
  case wrCtrl d => obtain ⟨u, e⟩ := execWrCtrl_eq_next.1 h; exact ⟨u, .inr (.inr (.inr (.inl ⟨d, rfl, e⟩)))⟩
  case wrFrame d => obtain ⟨u, e⟩ := execWrFrame_eq_next.1 h; exact ⟨u, .inr (.inr (.inr (.inr (.inl ⟨d, rfl, e⟩))))⟩
  case wrData d => obtain ⟨u, e⟩ := execWrData_eq_next.1 h; exact ⟨u, .inr (.inr (.inr (.inr (.inr ⟨d, rfl, e⟩))))⟩
  case wrStatus => exact absurd h execWrStatus_ne_next
  case reserved => exact absurd h execReserved_ne_next
  case invalid => exact absurd h execInvalid_ne_next

theorem wideAccess_ne_next {n : Nat} : wideAccess n s ≠ .next t := by
  simp [wideAccess, unlessMarked_eq_next]

end Sys2Proof.Machine
end

