-- ==== Sys2Proof/Laws/Step.lean ====
section
/-! SUPPORT. What one step can do, said once: HOST's turn, and the step of each agent. -/

namespace Sys2Proof.Machine

open Sys2Proof.Safety

variable {s t : State}

/-- HOST's turn is one access after which pc stays or moves by one, or one of HOST's own statements. -/
theorem hostStep_cases (h : hostStep s = .next t) :
    (∃ i u, exec i s = .next u ∧ (t = u ∨ t = u.nextPc)) ∨
    t = s ∨ t = s.halt ∨ (∃ n, t = s.nextPc.setWait n) ∨ (∃ n, t = s.setPc n) := by
  unfold hostStep at h
  split at h
  · split at h
    · rename_i st _
      cases st with
      | wr r v => obtain ⟨u, e, rfl⟩ := onNext_eq_next.1 h; exact .inl ⟨_, u, e, .inr rfl⟩
      | rd r => obtain ⟨u, e, rfl⟩ := onNext_eq_next.1 h; exact .inl ⟨_, u, e, .inr rfl⟩
      | poll r k => obtain ⟨u, e, rfl⟩ := onNext_eq_next.1 h; exact .inl ⟨_, u, e, pollPc_cases k u⟩
      | bus w => obtain ⟨u, e, rfl⟩ := onNext_eq_next.1 h; exact .inl ⟨_, u, e, .inr rfl⟩
      | wide o e => exact absurd h wideAccess_ne_next
      | delay n => exact .inr (.inr (.inr (.inl ⟨n, next_eq_next.1 h⟩)))
      | jmp n => exact .inr (.inr (.inr (.inr ⟨n, next_eq_next.1 h⟩)))
      | halt => exact .inr (.inr (.inl (next_eq_next.1 h)))
    · exact .inr (.inr (.inl (next_eq_next.1 h)))
  · exact .inr (.inl (next_eq_next.1 h))

/-- A step that completes started unmarked and is HOST's, CLOCK's or ENV's, followed by the draw of the next turn. -/
theorem step_cases (h : step s = .next t) : Unmarked s ∧ (
    (s.turn = .host ∧ ∃ u, hostStep s = .next u ∧ t = u.passTurn) ∨
    (s.turn = .clock ∧ t = (clockCycle s).passTurn) ∨
    (s.turn = .env ∧ t = (envChange s).passTurn)) := by
  obtain ⟨hu, e⟩ := unlessMarked_eq_next.1 h
  refine ⟨hu, ?_⟩
  cases ht : s.turn <;> simp only [ht] at e
  · obtain ⟨u, e', rfl⟩ := onNext_eq_next.1 e
    exact .inl ⟨rfl, u, e', rfl⟩
  · exact .inr (.inl ⟨rfl, next_eq_next.1 e⟩)
  · exact .inr (.inr ⟨rfl, next_eq_next.1 e⟩)

/-- On HOST's turn, with HOST ready, the step is the statement at pc. -/
theorem step_of_stmt {st : Stmt} (h : Unmarked s) (ht : s.turn = .host) (hr : s.hostReady = true)
    (hp : s.program[s.pc]? = some st) : step s = onNext (runStmt st s) State.passTurn := by
  simp [step, unlessMarked_of_unmarked h, ht, hostStep, hr, hp]

/-- HOST is ready exactly where it is neither halted nor waiting (R81). -/
theorem hostReady_eq_true : s.hostReady = true ↔ s.halted = false ∧ s.wait = 0 := by
  simp [State.hostReady]

/-- A fault of the step is recorded, and nothing else changes (R23). -/
theorem advance_of_fault {f : Fault} (h : Unmarked s) (e : step s = .fault f) :
    advance s = { s with faulted := some f } := by
  simp [advance, e, recordVerdict, marked_eq_false_iff.2 h]

/-- A refusal of the step is recorded, and nothing else changes (R23). -/
theorem advance_of_refused {x : Refusal} (h : Unmarked s) (e : step s = .refused x) :
    advance s = { s with refused := some x } := by
  simp [advance, e, recordVerdict, marked_eq_false_iff.2 h]

/-- A marked state stays as it is (R23, R47). -/
theorem advance_of_marked (h : ¬Unmarked s) : advance s = s := by
  have hm : s.marked = true := by
    rw [← marked_eq_false_iff] at h
    simpa using h
  cases e : step s with
  | next t => exact absurd (unlessMarked_eq_next.1 e).1 h
  | fault f => simp [advance, e, recordVerdict, hm]
  | refused x => simp [advance, e, recordVerdict, hm]

/-- R3 asks nothing of CLOCK in a run that a verdict ends. -/
theorem clockFair_of_marked {n : Nat} (h : (runFrom s n).marked = true) : ClockFair s :=
  fun hi => absurd h (by simp [hi n])

end Sys2Proof.Machine
end

