-- ==== Sys2Proof/Tests/Slice0.lean ====
section
/-! SUPPORT. The model's own tests. Expected results are the vectors of spec/95_test_vectors.md (cited as A<n>, W<n> and
by section) and the words of spec/30_encoding.md R37 and R41; none is the model's own answer. -/

namespace Sys2Proof.Tests

open Sys2Proof.Machine Sys2Proof.Safety

/-! ## Small states -/

/-- Reset with OS_INIT = 0, ENV at 0 and HOST to move (the conventions of 95_test_vectors.md). -/
def idle : State := { State.reset with os := 0, rxc := false, rxdata := 0x00, turn := .host }

/-- After `init 95`, with no CLOCK cycle since. -/
def configured : State :=
  { idle with divh := some 0x00, divl := some 0x5F, divq := some 0x005F, presc := some 95, ctrl := 0x18,
              frame := some 0x0E }

/-- After `init 95` and `wr DATA, 0x61`, with no CLOCK cycle since. -/
def loaded : State := { configured with txb := some 0x61, txbFull := true }

/-- The last stop bit of a frame waits, and a byte waits behind it; the next cycle is a bit tick. -/
def lastBit : State :=
  { loaded with tsrQ := [true], tsrActive := true, txd := false, presc := some 0, os := 15 }

/-- A frame is on the line, with the buffer empty. -/
def shifting : State := { lastBit with txbFull := false }

/-- `s` with HOST's program. -/
def withProgram (s : State) (p : List Stmt) : State := { s with program := p }

/-- The next state an answer holds. -/
def state? : Result → Option State
  | .next t => some t
  | .fault _ => none
  | .refused _ => none

/-- The fault an answer holds. -/
def fault? : Result → Option Fault
  | .next _ => none
  | .fault f => some f
  | .refused _ => none

/-- The refusal an answer holds. -/
def refusal? : Result → Option Refusal
  | .next _ => none
  | .fault _ => none
  | .refused x => some x

/-! ## Well-formedness: the ill-formed term that each check refuses -/

theorem test_wf_reserved_offset : (Instr.reserved 0 5 0x00).wellFormed = false := by decide
theorem test_wf_invalid_offset : (Instr.invalid 6 0x01).wellFormed = false := by decide
theorem test_wf_invalid_datum : (Instr.invalid 0 0x00).wellFormed = false := by decide

/-! ## Decoding, one word per constructor, written out from R35 and R37 -/

theorem test_decode_rdDivh : decode 0b0_000_00000000 = .rdDivh := by decide
theorem test_decode_rdDivl : decode 0b0_001_00000000 = .rdDivl := by decide
theorem test_decode_rdCtrl : decode 0b0_010_00000000 = .rdCtrl := by decide
theorem test_decode_rdFrame : decode 0b0_011_00000000 = .rdFrame := by decide
theorem test_decode_rdStatus : decode 0b0_100_00000000 = .rdStatus := by decide
theorem test_decode_rdData : decode 0b0_101_00000000 = .rdData := by decide
theorem test_decode_wrDivh : decode 0b1_000_11110011 = .wrDivh 0xF3 := by decide
theorem test_decode_wrDivl : decode 0b1_001_01011111 = .wrDivl 0x5F := by decide
theorem test_decode_wrCtrl : decode 0b1_010_00011000 = .wrCtrl 0x18 := by decide
theorem test_decode_wrFrame : decode 0b1_011_00001110 = .wrFrame 0x0E := by decide
theorem test_decode_wrStatus : decode 0b1_100_00100000 = .wrStatus 0x20 := by decide
theorem test_decode_wrData : decode 0b1_101_01100001 = .wrData 0x61 := by decide
theorem test_decode_reserved : decode 0b0_110_00000001 = .reserved 0 6 0x01 := by decide
theorem test_decode_invalid : decode 0b0_000_11111111 = .invalid 0 0xFF := by decide

/-- R41's examples. -/
theorem test_statement_words :
    wrWord .ctrl 0x18 = 0xA18 ∧ wrWord .data 0x61 = 0xD61 ∧ rdWord .status = 0x400 := by decide

theorem test_table_word : decodeTableWord 16 0xD61 = some (.wrData 0x61) ∧ decodeTableWord 16 0x1000 = none := by
  decide

/-! ## The accesses -/

/-- A2. -/
theorem test_rdDivh : (state? (exec .rdDivh { idle with divh := some 0xF3 })).map (·.t) = some (some 0xF3) := by decide
/-- A1. -/
theorem test_rdDivh_unwritten : fault? (exec .rdDivh idle) = some (.unwrittenRead 0) := by decide
/-- A4: DIVQ is ⊥, and DIVL reads back. -/
theorem test_rdDivl : (state? (exec .rdDivl { idle with divl := some 0x5F })).map (fun t => (t.t, t.divq)) =
    some (some 0x5F, none) := by decide
/-- A7. -/
theorem test_rdCtrl : (state? (exec .rdCtrl { idle with ctrl := 0x08 })).map (·.t) = some (some 0x08) := by decide
/-- A6. -/
theorem test_rdCtrl_both : (state? (exec .rdCtrl configured)).map (·.t) = some (some 0x18) := by decide
/-- A9. -/
theorem test_rdFrame : (state? (exec .rdFrame { idle with frame := some 0x06 })).map (·.t) = some (some 0x06) := by
  decide
/-- A11. -/
theorem test_rdStatus : (state? (exec .rdStatus { idle with rxc := true })).map (·.t) = some (some 0xA0) := by decide
/-- A12. -/
theorem test_rdStatus_full : (state? (exec .rdStatus loaded)).map (·.t) = some (some 0x00) := by decide
/-- A15: RXDATA, not TXB. -/
theorem test_rdData : (state? (exec .rdData loaded)).map (·.t) = some (some 0x00) := by decide
/-- A16. -/
theorem test_wrDivh : (state? (exec (.wrDivh 0xF3) idle)).map (fun t => (t.divh, t.divq, t.presc)) =
    some (some 0xF3, none, none) := by decide
/-- A21: GARBLE is set, DIVQ is not changed. -/
theorem test_wrDivh_busy : (state? (exec (.wrDivh 0x00) loaded)).map (fun t => (t.divq, t.garble)) =
    some (some 0x005F, true) := by decide
/-- A17. -/
theorem test_wrDivl : (state? (exec (.wrDivl 0xFF) { idle with divh := some 0x01 })).map
    (fun t => (t.divl, t.divq, t.presc)) = some (some 0xFF, some 0x01FF, some 511) := by decide
/-- A19: no commit while DIVH is ⊥. -/
theorem test_wrDivl_alone : (state? (exec (.wrDivl 0x00) idle)).map (fun t => (t.divl, t.divq, t.presc)) =
    some (some 0x00, none, none) := by decide
/-- A28: TXEN stays 1 and RXEN is cleared while busy. -/
theorem test_wrCtrl : (state? (exec (.wrCtrl 0x08) loaded)).map (·.ctrl) = some 0x08 := by decide
/-- A30: X4 comes before X5. -/
theorem test_wrCtrl_order : refusal? (exec (.wrCtrl 0x81) loaded) = some (.reservedBits 2 0x81) := by decide
/-- A37. -/
theorem test_wrFrame : (state? (exec (.wrFrame 0x0E) loaded)).map (fun t => (t.frame, t.garble)) =
    some (some 0x0E, true) := by decide
/-- A34. -/
theorem test_wrFrame_reserved : refusal? (exec (.wrFrame 0x01) idle) = some (.reservedBits 3 0x01) := by decide
/-- A39. -/
theorem test_wrStatus : refusal? (exec (.wrStatus 0x20) idle) = some (.statusWrite 0x20) := by decide
/-- A43: STATUS then reads 0x00. -/
theorem test_wrData : (state? (exec (.wrData 0x61) configured)).map (fun t => (t.txb, t.txbFull, t.statusByte)) =
    some (some 0x61, true, 0x00) := by decide
/-- A46: F3 comes before F2. -/
theorem test_wrData_order : fault? (exec (.wrData 0x00) { loaded with divq := none }) =
    some (.unconfiguredTransmit 0x00) := by decide
/-- A47. -/
theorem test_reserved : refusal? (exec (decode 0xE55) idle) = some (.reservedOffset 0xE55) := by decide
/-- 30_encoding.md R38, word 0x420. -/
theorem test_invalid : refusal? (exec (decode 0x420) idle) = some (.invalidEncoding 0x420) := by decide
/-- A49: X7 comes before X1. -/
theorem test_wide : refusal? (step (withProgram idle [.wide 6 0])) = some (.wideAccess 2) := by decide
/-- A50: no step is enabled in a faulted state. -/
theorem test_marked : fault? (exec .rdCtrl { idle with faulted := some (.txOverrun 0x62) }) =
    some (.txOverrun 0x62) := by decide
/-- P4, interleaving A: the fault is recorded and nothing else changes. -/
theorem test_recorded : advanceAccess (.wrData 0x42) loaded = { loaded with faulted := some (.txOverrun 0x42) } := by
  decide

/-! ## HOST's statements (95_test_vectors.md Part 2 section 8) -/

theorem test_poll_set : (state? (step (withProgram configured [.poll .status 5]))).map (fun t => (t.t, t.pc)) =
    some (some 0x20, 1) := by decide
theorem test_poll_clear : (state? (step (withProgram loaded [.poll .status 5]))).map (fun t => (t.t, t.pc)) =
    some (some 0x00, 0) := by decide
theorem test_delay : (state? (step (withProgram idle [.delay 3]))).map (fun t => (t.wait, t.pc)) = some (3, 1) := by
  decide
theorem test_jmp : (state? (step (withProgram idle [.jmp 7]))).map (·.pc) = some 7 := by decide
theorem test_halt : (state? (step (withProgram idle [.halt]))).map (fun t => (t.halted, t.pc)) = some (true, 0) := by
  decide
/-- W7 and R43: the words `init 95` issues (W1). -/
theorem test_init_statements :
    initSeq 95 = [.wr .divh 0x00, .wr .divl 0x5F, .wr .ctrl 0x18, .wr .frame 0x0E] := by decide
/-- R46's program, with its label resolved (P3's statements). -/
theorem test_assemble_main : assemble (mainLines 0 200) =
    some (initSeq 0 ++ [.poll .status 5, .wr .data 0x61, .delay 200, .jmp 4]) := by decide
/-- R41: an imm8 outside 0..255 is an assembly error. -/
theorem test_assemble_error : assemble [⟨none, .wr .data 256⟩] = none := by decide

/-! ## Divider, frame and clock -/

/-- 95_test_vectors.md Part 2 section 4, rows 1, 2, 6, 7 and 8. -/
theorem test_divisor_formula :
    divisorOf 14745600 9600 = 95 ∧ divisorOf 16000000 9600 = 103 ∧ divisorOf 16000000 1000000 = 0 ∧
    divisorOf 1000000 115200 = 0xFFFF ∧ divisorOf 16000000 240 = 0x1045 := by decide
/-- R63: F_CLK = 16000000 and BAUD = 15 give D = 66665, whose stored value is out of range all the same. -/
theorem test_divisor_oversize : 0x0FFF < (divisorOf 16000000 15).toNat := storedDivisor_of_gt (by decide)
/-- 95_test_vectors.md Part 2 section 7. -/
theorem test_bit_time : bitTime 95 = 1536 := by decide
/-- 95_test_vectors.md Part 2 section 5, the rows E = 2, OS = 10 and OS = 15. -/
theorem test_first_bit_tick : cyclesToBitTick 2 2 10 = 18 ∧ cyclesToBitTick 2 2 15 = 3 ∧ cyclesToBitTick 2 2 0 = 48 := by
  decide
/-- 95_test_vectors.md Part 2 section 6, rows 1 and 8. -/
theorem test_frame_bits :
    frameBits 0x61 0x0E = [false, true, false, false, false, false, true, true, false, true, true] ∧
    frameBits 0xFF 0x08 = [false, true, true, true, true, true, true, true] := by decide
/-- R67: a p-tick at OS = 15 is a bit tick; at OS = 14 it is not. -/
theorem test_bit_tick : (oversamplePhase true { idle with os := 15 }).2 = true ∧
    (oversamplePhase true { idle with os := 14 }).2 = false := by decide
/-- R66: the reload at 0 ticks. -/
theorem test_prescaler : (prescalerPhase { configured with presc := some 0 }).1.presc = some 95 ∧
    (prescalerPhase { configured with presc := some 0 }).2 = true := by decide
/-- P1, cycle 1: the load, with UDRE back at 1. -/
theorem test_cycle_loads : (clockCycle loaded).tsrQ = frameBits 0x61 0x0E ∧ (clockCycle loaded).udre = true := by decide
/-- P2, cycle 176: the bit tick drives the last bit, and the waiting byte loads in the same cycle. -/
theorem test_cycle_last_bit : (clockCycle lastBit).txd = true ∧ (clockCycle lastBit).tsrQ.length = 11 ∧
    (clockCycle lastBit).txbFull = false := by decide
/-- P5, cycle 192: the line returns to mark and GARBLE is cleared, with no draw. -/
theorem test_cycle_ends_garble :
    let t := clockCycle { shifting with tsrQ := [], garble := true }
    t.txd = true ∧ t.garble = false ∧ t.txIdle = true := by decide

/-! ## Witnesses: states and operands that meet the hypotheses of each statement -/

/-- A state configured with a divisor of 95 and 8N2 that meets the rest of the invariant. -/
theorem inv_with_95 {s : State} {p : EffDivisor} (hc : s.ctrl = 0x18) (hf : s.frame = some 0x0E)
    (hh : s.divh = some 0x00) (hl : s.divl = some 0x5F) (hq : s.divq = some 0x005F) (hp : s.presc = some p)
    (hle : p.toNat ≤ 95) (hb : s.txbFull = true → s.txb.isSome = true) (hlen : s.tsrQ.length ≤ 11)
    (hm : s.tsrActive = false → s.txd = true) (hg : s.garble = false) : MachineInv s where
  ctrlReserved := by rw [hc]; decide
  frameReserved f h := by rw [hf] at h; rw [← Option.some.inj h]; decide
  prescWithDivq := by rw [hp, hq]; rfl
  prescBound q p' h h' := by
    rw [hq] at h; rw [hp] at h'
    rw [← Option.some.inj h, ← Option.some.inj h']
    exact hle.trans (by decide)
  divqAfterHalves _ := by rw [hh, hl]; exact ⟨rfl, rfl⟩
  fullHoldsByte := hb
  busyConfigured _ := by rw [hf, hq]; exact ⟨rfl, rfl⟩
  shiftLength := hlen
  disabledIdle h := by rw [State.txen, hc] at h; exact absurd h (by decide)
  quietLineMark := hm
  garbleWhileBusy h := by rw [hg] at h; cases h

theorem configured_inv : MachineInv configured :=
  inv_with_95 (p := 95) rfl rfl rfl rfl rfl rfl (by decide) (by decide) (by decide) (by decide) rfl

theorem loaded_inv : MachineInv loaded :=
  inv_with_95 (p := 95) rfl rfl rfl rfl rfl rfl (by decide) (by decide) (by decide) (by decide) rfl

theorem lastBit_inv : MachineInv lastBit :=
  inv_with_95 (p := 0) rfl rfl rfl rfl rfl rfl (by decide) (by decide) (by decide) (by decide) rfl

theorem shifting_inv : MachineInv shifting :=
  inv_with_95 (p := 0) rfl rfl rfl rfl rfl rfl (by decide) (by decide) (by decide) (by decide) rfl

theorem idle_inv : MachineInv idle where
  ctrlReserved := by decide
  frameReserved f h := by cases (show none = some f from h)
  prescWithDivq := rfl
  prescBound q p h _ := by cases (show none = some q from h)
  divqAfterHalves h := by cases (show false = true from h)
  fullHoldsByte h := by cases (show false = true from h)
  busyConfigured h := by cases (show true = false from h)
  shiftLength := by decide
  disabledIdle _ := rfl
  quietLineMark _ := rfl
  garbleWhileBusy h := by cases (show false = true from h)

theorem idle_unmarked : Unmarked idle := ⟨rfl, rfl⟩
theorem configured_unmarked : Unmarked configured := ⟨rfl, rfl⟩
theorem loaded_unmarked : Unmarked loaded := ⟨rfl, rfl⟩
theorem faulted_not_unmarked : ¬Unmarked { idle with faulted := some (.txOverrun 0) } := by simp [Unmarked]

theorem witness_DecodeEncodeRoundTrip :
    (Instr.reserved 1 6 0xFF).wellFormed = true ∧ (Instr.reserved 0 7 0x00).wellFormed = true ∧
    (Instr.invalid 5 0x01).wellFormed = true ∧ (Instr.wrData 0xFF).wellFormed = true := by decide

/-- Rows 1, 2 and 9-14 of R37 at the ends of their ranges. -/
theorem witness_DecodeFollowsTable :
    (0x600#12).extractLsb' 8 3 = 6 ∧ (0xFFF#12).extractLsb' 8 3 = 7 ∧
    ((0x501#12).extractLsb' 8 3).toNat ≤ 5 ∧ (0x501#12).getLsbD 11 = false ∧ (0x501#12).extractLsb' 0 8 ≠ 0 ∧
    (0x8FF#12).getLsbD 11 = true ∧ (0x8FF#12).extractLsb' 8 3 = 0 ∧ (0x900#12).extractLsb' 8 3 = 1 ∧
    (0xAFF#12).extractLsb' 8 3 = 2 ∧ (0xB00#12).extractLsb' 8 3 = 3 ∧ (0xC00#12).extractLsb' 8 3 = 4 ∧
    (0xDFF#12).getLsbD 11 = true ∧ (0xDFF#12).extractLsb' 8 3 = 5 := by decide

theorem witness_BusAddressSelectsOffset :
    decodeAddress (Config.uartBase + 7) = some 7 ∧ decodeAddress (Config.uartBase + 8) = none := by
  simp [decodeAddress, Config.regWindow]

theorem witness_RdDivhReadsStoredByte :
    Unmarked configured ∧ configured.divh = some 0x00 ∧ idle.divh = none ∧
    exec (.wrDivh 0xFF) idle = .next (idle.setDivh 0xFF) := ⟨⟨rfl, rfl⟩, rfl, rfl, rfl⟩

theorem witness_RdDivlReadsStoredByte :
    Unmarked configured ∧ configured.divl = some 0x5F ∧ idle.divl = none ∧
    exec (.wrDivl 0xFF) idle = .next (idle.setDivl 0xFF) := ⟨⟨rfl, rfl⟩, rfl, rfl, rfl⟩

theorem witness_RdCtrlReadsEnables : Unmarked idle ∧ exec (.wrCtrl 0x18) idle = .next (idle.setCtrl 0x18) :=
  ⟨⟨rfl, rfl⟩, rfl⟩

theorem witness_RdFrameReadsStoredByte :
    Unmarked configured ∧ configured.frame = some 0x0E ∧ idle.frame = none ∧
    exec (.wrFrame 0x0E) idle = .next (idle.setFrame 0x0E) := ⟨⟨rfl, rfl⟩, rfl, rfl, rfl⟩

theorem witness_RdStatusReadsFlags :
    Unmarked configured ∧ exec (.wrData 0x61) configured = .next (configured.fillTxb 0x61) := ⟨⟨rfl, rfl⟩, rfl⟩

theorem witness_RdDataReadsReceiveInput :
    Unmarked configured ∧ exec (.wrData 0xFF) configured = .next (configured.fillTxb 0xFF) := ⟨⟨rfl, rfl⟩, rfl⟩

theorem witness_WrDivhStoresByte : Unmarked loaded ∧ idle.txIdle = true ∧ loaded.txIdle = false := by
  simp [Unmarked]; decide

theorem witness_WrDivlCommitsDivisor :
    Unmarked loaded ∧ loaded.divh = some 0x00 ∧ idle.divh = none ∧ idle.txIdle = true ∧ loaded.txIdle = false := by
  simp [Unmarked]; decide

/-- Each clause: a reserved bit; TXEN cleared while busy; and the three ways to be accepted. -/
theorem witness_WrCtrlStoresEnables :
    (0x80#8) &&& 0xE7 ≠ 0 ∧ (0x10#8) &&& 0xE7 = 0 ∧ (0x10#8).getLsbD 3 = false ∧ loaded.ctrl.getLsbD 3 = true ∧
    loaded.txIdle = false ∧ (0x08#8).getLsbD 3 = true ∧ idle.ctrl.getLsbD 3 = false ∧
    configured.txIdle = true := by decide

theorem witness_WrFrameStoresFormat :
    (0x01#8) &&& 0xF1 ≠ 0 ∧ (0x0E#8) &&& 0xF1 = 0 ∧ idle.txIdle = true ∧ loaded.txIdle = false := by decide

/-- Each clause: TXEN = 0; DIVQ ⊥; FRAME ⊥; the buffer full; accepted. -/
theorem witness_WrDataFillsBuffer :
    idle.ctrl.getLsbD 3 = false ∧ loaded.ctrl.getLsbD 3 = true ∧ ({ loaded with divq := none }).divq = none ∧
    ({ loaded with frame := none }).frame = none ∧ loaded.divq ≠ none ∧ loaded.frame ≠ none ∧
    loaded.txbFull = true ∧ configured.txbFull = false := by decide

theorem witness_ReservedOffsetAlwaysRefused :
    6 ≤ ((0x600#12).extractLsb' 8 3).toNat ∧ 6 ≤ ((0xFFF#12).extractLsb' 8 3).toNat := by decide

theorem witness_InvalidReadAlwaysRefused :
    ((0x5FF#12).extractLsb' 8 3).toNat ≤ 5 ∧ (0x5FF#12).getLsbD 11 = false ∧ (0x5FF#12).extractLsb' 0 8 ≠ 0 := by
  decide

/-- Each reason of R90 that an access raises, raised. -/
theorem witness_VerdictsOnlyAsTabled :
    fault? (exec .rdFrame idle) = some (.unwrittenRead 3) ∧
    fault? (exec (.wrData 1) loaded) = some (.txOverrun 1) ∧
    fault? (exec (.wrData 1) { loaded with frame := none }) = some (.unconfiguredTransmit 1) ∧
    refusal? (exec (.reserved 0 6 0) idle) = some (.reservedOffset 0x600) ∧
    refusal? (exec (.invalid 5 1) idle) = some (.invalidEncoding 0x501) ∧
    refusal? (exec (.wrStatus 0) idle) = some (.statusWrite 0) ∧
    refusal? (exec (.wrCtrl 0x80) idle) = some (.reservedBits 2 0x80) ∧
    refusal? (exec (.wrCtrl 0x10) loaded) = some (.txDisableWhileBusy 0x10) ∧
    refusal? (exec (.wrData 0) idle) = some (.dataWriteTxDisabled 0) := by decide

theorem witness_RaisingAccessChangesOnlyMark :
    Unmarked idle ∧ exec .rdDivh idle = .fault (.unwrittenRead 0) ∧
    exec (.wrStatus 0xFF) idle = .refused (.statusWrite 0xFF) := ⟨⟨rfl, rfl⟩, rfl, rfl⟩

theorem witness_ChecksRunInOrder :
    Unmarked loaded ∧ 6 ≤ ((0x601#12).extractLsb' 8 3).toNat ∧ ((0x401#12).extractLsb' 8 3).toNat < 6 ∧
    (0x401#12).getLsbD 11 = false ∧ (0x401#12).extractLsb' 0 8 ≠ 0 ∧ (0x81#8) &&& 0xE7 ≠ 0 ∧
    (0x00#8) &&& 0xE7 = 0 ∧ (0x00#8).getLsbD 3 = false ∧ loaded.ctrl.getLsbD 3 = true ∧ loaded.txIdle = false := by
  simp [Unmarked]; decide

/-- Each kind of change: DIVH; DIVL with DIVQ and PRESC; CTRL; FRAME; the buffer; GARBLE; t. -/
theorem witness_AccessFrame :
    (state? (exec (.wrDivh 1) loaded)).map (fun t => (t.divh, t.garble)) = some (some 1, true) ∧
    (state? (exec (.wrDivl 0) configured)).map (fun t => (t.divl, t.divq, t.presc)) = some (some 0, some 0, some 0) ∧
    (state? (exec (.wrCtrl 0) configured)).map (·.ctrl) = some 0 ∧
    (state? (exec (.wrFrame 0) configured)).map (·.frame) = some (some 0) ∧
    (state? (exec (.wrData 0) configured)).map (·.txb) = some (some 0) ∧
    (state? (exec .rdStatus configured)).map (·.t) = some (some 0x20) := by decide

theorem witness_ReconfiguringWhileBusyGarbles :
    loaded.txIdle = false ∧ exec (.wrFrame 0x0E) loaded = .next (loaded.garbleIfBusy.setFrame 0x0E) :=
  ⟨rfl, rfl⟩

theorem witness_StepRunsDecodedWord :
    let s := withProgram idle [.bus 0x200]
    Unmarked s ∧ s.turn = .host ∧ s.halted = false ∧ s.wait = 0 ∧ s.program[s.pc]? = some (.bus 0x200) :=
  ⟨⟨rfl, rfl⟩, rfl, rfl, rfl, rfl⟩

theorem witness_PlacedWordRunsNext :
    Unmarked State.reset ∧ decodeTableWord 16 0xFFF = some (.reserved 1 7 0xFF) ∧
    decodeTableWord 16 0x8F3 = some (.wrDivh 0xF3) := ⟨⟨rfl, rfl⟩, by decide, by decide⟩

/-- Each clause at its own statement: a write that completes, a read that faults, a write that is refused. -/
theorem witness_HostWriteAndRead :
    let p := [Stmt.wr .divh 0xFF, .rd .divh, .wr .status 0]
    let s (k : Nat) := { withProgram idle p with pc := k }
    (∀ k, Unmarked (s k) ∧ (s k).turn = .host ∧ (s k).halted = false ∧ (s k).wait = 0) ∧
    ((s 0).program[(s 0).pc]? = some (.wr .divh 0xFF) ∧
      exec (decode (wrWord .divh 0xFF)) (s 0) = .next ((s 0).setDivh 0xFF)) ∧
    ((s 1).program[(s 1).pc]? = some (.rd .divh) ∧
      exec (decode (rdWord .divh)) (s 1) = .fault (.unwrittenRead 0)) ∧
    ((s 2).program[(s 2).pc]? = some (.wr .status 0) ∧
      exec (decode (wrWord .status 0)) (s 2) = .refused (.statusWrite 0)) :=
  ⟨fun _ => ⟨⟨rfl, rfl⟩, rfl, rfl, rfl⟩, ⟨rfl, rfl⟩, ⟨rfl, rfl⟩, ⟨rfl, rfl⟩⟩

/-- A poll that reads 0 and one that reads 1, and the polls of the three registers that are ⊥. -/
theorem witness_HostPollRepeatsUntilSet :
    let s (u : State) (r : Reg) := withProgram u [.poll r 5]
    (∀ r, Unmarked (s idle r) ∧ (s idle r).turn = .host ∧ (s idle r).halted = false ∧ (s idle r).wait = 0 ∧
      (s idle r).program[(s idle r).pc]? = some (.poll r 5)) ∧
    exec (decode (rdWord .status)) (s loaded .status) = .next ((s loaded .status).setT 0x00) ∧
    exec (decode (rdWord .status)) (s idle .status) = .next ((s idle .status).setT 0x20) ∧
    exec (decode (rdWord .divh)) (s idle .divh) = .fault (.unwrittenRead 0) ∧
    (s idle .divh).divh = none ∧ (s idle .divl).divl = none ∧ (s idle .frame).frame = none :=
  ⟨fun _ => ⟨⟨rfl, rfl⟩, rfl, rfl, rfl, rfl⟩, rfl, rfl, rfl, rfl, rfl, rfl⟩

theorem witness_HostDelayWaits :
    let s := withProgram idle [.delay 0]
    let w := s.setWait 1
    Unmarked s ∧ s.turn = .host ∧ s.halted = false ∧ s.wait = 0 ∧ s.program[s.pc]? = some (.delay 0) ∧
    Unmarked w ∧ w.turn = .host ∧ w.wait ≠ 0 ∧ step w = .next w.passTurn ∧ w.turn ≠ .clock :=
  ⟨⟨rfl, rfl⟩, rfl, rfl, rfl, rfl, ⟨rfl, rfl⟩, rfl, by decide, rfl, by decide⟩

/-- A jump, a halt, a pc just past the last statement, a halted HOST. -/
theorem witness_HostJumpAndHalt :
    (withProgram idle [.jmp 9]).program[0]? = some (.jmp 9) ∧ (withProgram idle [.halt]).program[0]? = some .halt ∧
    idle.program.length ≤ idle.pc ∧ Unmarked idle ∧ idle.turn = .host ∧ idle.halted = false ∧ idle.wait = 0 ∧
    Unmarked idle.halt ∧ idle.halt.turn = .host ∧ idle.halt.halted = true ∧ idle.halt.txIdle = true :=
  ⟨rfl, rfl, by decide, ⟨rfl, rfl⟩, rfl, rfl, rfl, ⟨rfl, rfl⟩, rfl, rfl, rfl⟩

theorem witness_VerdictsAreSticky :
    Unmarked (withProgram idle [.rd .divh]) ∧ step (withProgram idle [.rd .divh]) = .fault (.unwrittenRead 0) ∧
    step (withProgram idle [.wide 0 0]) = .refused (.wideAccess 2) ∧
    ¬Unmarked { idle with faulted := some (.txOverrun 0) } :=
  ⟨⟨rfl, rfl⟩, rfl, rfl, faulted_not_unmarked⟩

theorem witness_ClockStepNeverRaises :
    Unmarked { loaded with turn := .clock } ∧ ({ loaded with turn := .clock }).turn = .clock ∧
    ¬Unmarked { idle with faulted := some (.txOverrun 0), turn := .clock } :=
  ⟨⟨rfl, rfl⟩, rfl, by simp [Unmarked]⟩

theorem witness_OnlyEnvDrivesInputs :
    step { idle with turn := .env } = .next (envChange { idle with turn := .env }).passTurn := rfl

/-- A bit tick changes the line from space to mark. -/
theorem witness_TxdChangesOnlyAtBitTicks :
    (state? (step { shifting with turn := .clock })).map (·.txd) = some true ∧ shifting.txd = false := by decide

/-- HOST's DATA write fills the buffer; CLOCK's load empties it, with the shift register empty before the cycle or emptied
by its bit tick. -/
theorem witness_FlagsChangeOnlyAsTabled :
    (state? (step (withProgram configured [.wr .data 0xFF]))).map (·.txbFull) = some true ∧
    configured.txbFull = false ∧
    (state? (step { loaded with turn := .clock })).map (·.txbFull) = some false ∧ loaded.txbFull = true ∧
    (state? (step { lastBit with turn := .clock })).map (·.txbFull) = some false ∧ lastBit.txbFull = true := by decide

theorem witness_EffectiveDivisorRule :
    (0x0FFF#16).toNat ≤ 0x0FFF ∧ 0x0FFF < (0x1000#16).toNat ∧ ({ idle with presc := some 0 }).divq = none ∧
    ({ idle with presc := some 0 }).presc = some 0 := by decide

theorem witness_DivisorFormula :
    divisorInRange 16 1 = true ∧ divisorInRange (16 * 4096) 1 = true ∧ divisorInRange (16 * 4097) 1 = false ∧
    divisorInRange 15 1 = false ∧ 15 < 16 * 1 ∧ 16 * 0x10000 / (16 * 1) ≤ 0x10000 ∧
    divisorInRange 16000000 15 = false := by decide

theorem witness_DividerAfterCycles :
    configured.divq = some 0x005F ∧ configured.presc = some 95 ∧
    (95 : EffDivisor).toNat ≤ (effectiveDivisor 0x005F).toNat := by decide

theorem witness_DividerStopsWithoutDivisor : MachineInv idle ∧ idle.divq = none := ⟨idle_inv, rfl⟩

theorem witness_DividerNeverStopsAgain :
    MachineInv configured ∧ configured.divq ≠ none ∧
    step (withProgram configured []) = .next configured.halt.passTurn ∧ loaded.divq = configured.divq ∧
    loaded.presc = configured.presc ∧ loaded.os = configured.os :=
  ⟨configured_inv, by decide, rfl, rfl, rfl, rfl⟩

/-- The widest and the narrowest format, and two bytes that agree on the bits sent. -/
theorem witness_FrameBitsInLineOrder :
    dataBits 0x0E = 8 ∧ stopBits 0x0E = 2 ∧ dataBits 0x00 = 5 ∧ stopBits 0x00 = 1 ∧
    frameBits 0xE1 0x00 = frameBits 0x01 0x00 := by decide

theorem witness_ShiftPhaseDrivesNextBit :
    idle.tsrQ = [] ∧ shifting.tsrQ = true :: [] ∧ shifting.garble = false ∧
    ({ shifting with garble := true }).garble = true := by decide

theorem witness_LoadPhaseMovesByte :
    MachineInv loaded ∧ loaded.ctrl.getLsbD 3 = true ∧ loaded.txbFull = true ∧ loaded.tsrQ = [] ∧
    idle.ctrl.getLsbD 3 = false ∧ shifting.tsrQ ≠ [] ∧
    exec (.wrFrame 0) loaded = .next (loaded.garbleIfBusy.setFrame 0) :=
  ⟨loaded_inv, by decide, rfl, rfl, by decide, by decide, rfl⟩

theorem witness_GarbledUntilIdle :
    idle.txIdle = true ∧ loaded.txIdle = false ∧ ({ loaded with garble := true, turn := .env }).garble = true ∧
    step { loaded with garble := true, turn := .env } =
      .next (envChange { loaded with garble := true, turn := .env }).passTurn := ⟨rfl, rfl, rfl, rfl⟩

theorem witness_RxenHasNoTransmitEffect : (0x08#8).getLsbD 3 = configured.ctrl.getLsbD 3 := by decide

theorem witness_WaitingBitsGoOutInTime :
    shifting.divq = some 0x005F ∧ shifting.presc = some 0 ∧ (0 : EffDivisor).toNat ≤ (effectiveDivisor 0x005F).toNat ∧
    shifting.garble = false ∧ shifting.txbFull = false ∧ shifting.tsrQ = [true] ∧ [true] ≠ [] ∧
    [true][0]? = some true := by decide

theorem witness_EmptyShiftRegisterLoadsNextCycle :
    MachineInv loaded ∧ loaded.txbFull = true ∧ loaded.tsrQ = [] := ⟨loaded_inv, rfl, rfl⟩

theorem witness_LastBitTickLoadsNextFrame :
    MachineInv lastBit ∧ lastBit.txbFull = true ∧ lastBit.tsrQ = [true] ∧ lastBit.garble = false ∧
    (oversamplePhase (prescalerPhase lastBit).2 (prescalerPhase lastBit).1).2 = true :=
  ⟨lastBit_inv, rfl, rfl, rfl, by decide⟩

theorem witness_UdreReturnsWithinElevenBitTimes :
    MachineInv lastBit ∧ lastBit.divq = some 0x005F ∧ lastBit.txbFull = true := ⟨lastBit_inv, rfl, rfl⟩

theorem witness_LineIdleWithinBound :
    MachineInv shifting ∧ shifting.divq = some 0x005F ∧ shifting.txbFull = false ∧
    (shifting.tsrQ.length + 1) * bitTime (effectiveDivisor 0x005F) ≤ 3072 ∧
    12 * bitTime (effectiveDivisor 0x005F) ≤ 18432 := ⟨shifting_inv, rfl, rfl, by decide, by decide⟩

/-- From an idle transmitter and from a busy one. -/
theorem witness_InitSetsEveryRegister :
    Unmarked idle ∧ idle.txIdle = true ∧ Unmarked loaded ∧ loaded.txIdle = false := ⟨⟨rfl, rfl⟩, rfl, ⟨rfl, rfl⟩, rfl⟩

theorem witness_PolledWriteNeverOverruns :
    let s := { configured with turn := .clock }
    Unmarked s ∧ s.turn ≠ .host ∧ step s = .next (clockCycle s).passTurn ∧ s.txbFull = false ∧
    s.ctrl.getLsbD 3 = true ∧ s.divq ≠ none ∧ s.frame ≠ none :=
  ⟨⟨rfl, rfl⟩, by decide, rfl, rfl, by decide, by decide, by decide⟩

theorem witness_AccessesRightAfterReset : (0x18#8) &&& 0xE7 = 0 ∧ (0x0E#8) &&& 0xF1 = 0 := by decide

theorem witness_StepKeepsInvariant :
    MachineInv lastBit ∧ step { lastBit with turn := .clock } = .next (clockCycle { lastBit with turn := .clock }).passTurn :=
  ⟨lastBit_inv, rfl⟩

theorem witness_StepLeavesNoMark : core.step (withProgram idle [.halt]) = .next (withProgram idle [.halt]).halt.passTurn :=
  rfl

end Sys2Proof.Tests
end

/-! # The state's rules (spec/10_state.md): sticky verdicts, the output line and the status flags -/

/-! ## What an access, a cycle and HOST's turn do to the line, the flags and the buffer -/

namespace Sys2Proof.Machine

open Sys2Proof.Safety

variable {s t : State} {d : Byte}

/-! The words of the host statements, decoded (30_encoding.md R37, R41). -/

theorem decode_wrWord (r : Reg) (v : Byte) : decode (wrWord r v) = writeAt r.offset v := by
  rw [wrWord_eq_packWord, decode_packWord]
  cases r <;> simp [Reg.offset]

theorem decode_rdWord (r : Reg) : decode (rdWord r) = readAt r.offset := by
  rw [rdWord_eq_packWord, decode_packWord]
  cases r <;> simp [Reg.offset]

theorem decode_wrWord_eq_wrData {r : Reg} {v : Byte} : decode (wrWord r v) = .wrData d ↔ r = .data ∧ v = d := by
  rw [decode_wrWord]
  cases r <;> simp [Reg.offset, writeAt]

theorem decode_rdWord_ne_wrData (r : Reg) : decode (rdWord r) ≠ .wrData d := by
  rw [decode_rdWord]
  cases r <;> simp [Reg.offset, readAt]

/-! The DIVL write's commit leaves the line, the inputs and the buffer alone. -/

@[simp] theorem State.commitDivisor_txd (s : State) (d : Byte) : (s.commitDivisor d).txd = s.txd := by
  obtain ⟨-, e⟩ | ⟨h, -, e⟩ := commitDivisor_cases s d <;> rw [e]

@[simp] theorem State.commitDivisor_rxc (s : State) (d : Byte) : (s.commitDivisor d).rxc = s.rxc := by
  obtain ⟨-, e⟩ | ⟨h, -, e⟩ := commitDivisor_cases s d <;> rw [e]

@[simp] theorem State.commitDivisor_txbFull (s : State) (d : Byte) : (s.commitDivisor d).txbFull = s.txbFull := by
  obtain ⟨-, e⟩ | ⟨h, -, e⟩ := commitDivisor_cases s d <;> rw [e]

/-- No access drives TXD or RXC (R19, R22). -/
theorem exec_txd_rxc {i : Instr} (h : exec i s = .next t) : t.txd = s.txd ∧ t.rxc = s.rxc := by
  obtain ⟨-, ⟨v, rfl, -⟩ | ⟨d, -, rfl⟩ | ⟨d, -, rfl⟩ | ⟨d, -, -, -, rfl⟩ | ⟨d, -, -, rfl⟩ |
    ⟨d, -, -, -, -, -, rfl⟩⟩ := exec_cases h <;> simp

/-- Among the accesses only a DATA write touches TXB_FULL, which it sets for its own byte (R59). -/
theorem exec_txbFull {i : Instr} (h : exec i s = .next t) :
    t.txbFull = s.txbFull ∨ ∃ d, i = .wrData d ∧ t.txbFull = true ∧ t.txb = some d := by
  obtain ⟨-, ⟨v, rfl, -⟩ | ⟨d, -, rfl⟩ | ⟨d, -, rfl⟩ | ⟨d, -, -, -, rfl⟩ | ⟨d, -, -, rfl⟩ |
    ⟨d, rfl, -, -, -, -, rfl⟩⟩ := exec_cases h
  case inr.inr.inr.inr.inr => exact .inr ⟨d, rfl, rfl, rfl⟩
  all_goals exact .inl (by simp)

/-- HOST's turn runs the statement at pc, or changes at most HALTED. -/
theorem hostStep_eq_next (h : hostStep s = .next t) :
    (∃ st, s.program[s.pc]? = some st ∧ runStmt st s = .next t) ∨ t = s ∨ t = s.halt := by
  unfold hostStep at h
  split at h
  · split at h
    · next st hst => exact .inl ⟨st, hst, h⟩
    · exact .inr (.inr (next_eq_next.1 h))
  · exact .inr (.inl (next_eq_next.1 h))

/-- HOST's turn drives neither TXD nor RXC (R19, R22). -/
theorem hostStep_txd_rxc (h : hostStep s = .next t) : t.txd = s.txd ∧ t.rxc = s.rxc := by
  obtain ⟨i, u, e, rfl | rfl⟩ | rfl | rfl | ⟨n, rfl⟩ | ⟨n, rfl⟩ := hostStep_cases h
  case inl.inl => exact exec_txd_rxc e
  case inl.inr => simpa using exec_txd_rxc e
  all_goals simp

/-- The statement writes `d` to DATA: `wr DATA, d`, or a raw bus word that spells that access. -/
def Stmt.WritesData (st : Stmt) (d : Byte) : Prop := st = .wr .data d ∨ ∃ w, st = .bus w ∧ decode w = .wrData d

/-- A statement keeps TXB_FULL, or it writes a byte to DATA and the full buffer then holds that byte. -/
theorem runStmt_txbFull {st : Stmt} (h : runStmt st s = .next t) :
    t.txbFull = s.txbFull ∨ ∃ d, st.WritesData d ∧ t.txbFull = true ∧ t.txb = some d := by
  cases st with
  | wr r v =>
    obtain ⟨u, e, rfl⟩ := onNext_eq_next.1 h
    obtain hkeep | ⟨d, hd, hfull, hb⟩ := exec_txbFull e
    · exact .inl hkeep
    · obtain ⟨rfl, rfl⟩ := decode_wrWord_eq_wrData.1 hd
      exact .inr ⟨v, .inl rfl, hfull, hb⟩
  | bus w =>
    obtain ⟨u, e, rfl⟩ := onNext_eq_next.1 h
    obtain hkeep | ⟨d, hd, hfull, hb⟩ := exec_txbFull e
    · exact .inl hkeep
    · exact .inr ⟨d, .inr ⟨w, rfl, hd⟩, hfull, hb⟩
  | rd r =>
    obtain ⟨u, e, rfl⟩ := onNext_eq_next.1 h
    obtain hkeep | ⟨d, hd, -⟩ := exec_txbFull e
    · exact .inl hkeep
    · exact absurd hd (decode_rdWord_ne_wrData r)
  | poll r k =>
    obtain ⟨u, e, rfl⟩ := onNext_eq_next.1 h
    obtain hkeep | ⟨d, hd, -⟩ := exec_txbFull e
    · obtain hp | hp := pollPc_cases k u <;> exact .inl (by rw [hp]; exact hkeep)
    · exact absurd hd (decode_rdWord_ne_wrData r)
  | wide o n => exact absurd h wideAccess_ne_next
  | delay n => exact .inl (by rw [next_eq_next.1 h]; rfl)
  | jmp n => exact .inl (by rw [next_eq_next.1 h]; rfl)
  | halt => exact .inl (by rw [next_eq_next.1 h]; rfl)

/-- HOST's turn keeps TXB_FULL, or the statement at pc writes a byte to DATA and the full buffer then holds it. -/
theorem hostStep_txbFull (h : hostStep s = .next t) :
    t.txbFull = s.txbFull ∨
    ∃ st d, s.program[s.pc]? = some st ∧ st.WritesData d ∧ t.txbFull = true ∧ t.txb = some d := by
  obtain ⟨st, hst, hrun⟩ | rfl | rfl := hostStep_eq_next h
  · obtain hkeep | ⟨d, hd⟩ := runStmt_txbFull hrun
    · exact .inl hkeep
    · exact .inr ⟨st, d, hst, hd⟩
  · exact .inl rfl
  · exact .inl rfl

/-- A cycle moves TXD only where its shift phase does: at a bit tick (R72). -/
theorem clockCycle_txd_of_no_bitTick
    (h : (oversamplePhase (prescalerPhase s).2 (prescalerPhase s).1).2 = false) : (clockCycle s).txd = s.txd := by
  simp [clockCycle, h, shiftPhase]

/-- A cycle never fills the buffer. -/
theorem clockCycle_txbFull_of_empty (h : s.txbFull = false) : (clockCycle s).txbFull = false := by
  obtain hload | ⟨-, -, -, b, f, -, -, hload⟩ := loadPhase_cases
      (shiftPhase (oversamplePhase (prescalerPhase s).2 (prescalerPhase s).1).2
        (oversamplePhase (prescalerPhase s).2 (prescalerPhase s).1).1) <;>
    simp [clockCycle, hload, h]

/-- A cycle that empties the buffer loads: TXEN is 1, no bit is left after the shift phase, and TSR_Q becomes the frame
of TXB in FRAME's format (R73). -/
theorem clockCycle_load (hfull : s.txbFull = true) (hempty : (clockCycle s).txbFull = false) :
    s.txen = true ∧
    (shiftPhase (oversamplePhase (prescalerPhase s).2 (prescalerPhase s).1).2
      (oversamplePhase (prescalerPhase s).2 (prescalerPhase s).1).1).tsrQ = [] ∧
    ∃ b f, s.txb = some b ∧ s.frame = some f ∧ (clockCycle s).tsrQ = frameBits b f := by
  obtain hload | ⟨hen, -, hq, b, f, hb, hf, hload⟩ := loadPhase_cases
      (shiftPhase (oversamplePhase (prescalerPhase s).2 (prescalerPhase s).1).2
        (oversamplePhase (prescalerPhase s).2 (prescalerPhase s).1).1)
  · simp [clockCycle, hload, hfull] at hempty
  · exact ⟨by simpa [State.txen] using hen, hq, b, f, by simpa using hb, by simpa using hf, by simp [clockCycle, hload]⟩

/-- A run from a marked state never leaves it (R23, R47). -/
theorem runFrom_of_marked (h : ¬Unmarked s) (n : Nat) : runFrom s n = s := by
  induction n with
  | zero => rfl
  | succ n ih => rw [runFrom, ih, advance_of_marked h]

/-- UDRE goes to 0 only on HOST's turn, by a DATA write whose byte the buffer then holds (R25). -/
theorem step_fills_only_by_data_write (h : step s = .next t) (hempty : s.txbFull = false) (hfull : t.txbFull = true) :
    s.turn = .host ∧ ∃ st d, s.program[s.pc]? = some st ∧ st.WritesData d ∧ t.txb = some d := by
  obtain ⟨-, ⟨hturn, u, hu, rfl⟩ | ⟨-, rfl⟩ | ⟨-, rfl⟩⟩ := step_cases h
  · obtain hkeep | ⟨st, d, hst, hd, -, hb⟩ := hostStep_txbFull hu
    · exact absurd (hkeep.trans hempty) (by simpa using hfull)
    · exact ⟨hturn, st, d, hst, hd, hb⟩
  · simp [clockCycle_txbFull_of_empty hempty] at hfull
  · simp [hempty] at hfull

/-- UDRE goes to 1 only on CLOCK's turn; what the cycle did is `clockCycle_load` (R25). -/
theorem step_empties_only_by_cycle (h : step s = .next t) (hfull : s.txbFull = true) (hempty : t.txbFull = false) :
    s.turn = .clock ∧ t = (clockCycle s).passTurn := by
  obtain ⟨-, ⟨-, u, hu, rfl⟩ | hclock | ⟨-, rfl⟩⟩ := step_cases h
  · have hemptyU : ¬u.txbFull = true := by simpa using hempty
    obtain hkeep | ⟨st, d, -, -, hset, -⟩ := hostStep_txbFull hu
    · exact absurd (hkeep.trans hfull) hemptyU
    · exact absurd hset hemptyU
  · exact hclock
  · simp [hfull] at hempty

/-- RXC changes only on ENV's turn (R22). -/
theorem step_rxc_of_turn_ne_env (h : step s = .next t) (hturn : s.turn ≠ .env) : t.rxc = s.rxc := by
  obtain ⟨-, ⟨-, u, hu, rfl⟩ | ⟨-, rfl⟩ | ⟨henv, -⟩⟩ := step_cases h
  · exact (hostStep_txd_rxc hu).2
  · simp
  · exact absurd henv hturn

end Sys2Proof.Machine

/-! ## The obligations of 10_state.md -/

namespace Sys2Proof.Proofs

open Sys2Proof.Machine Sys2Proof.Safety

/-- Settles O33: the step's verdict is recorded once, and every access and step is guarded by the mark. -/
theorem verdictsAreSticky : Obligations.VerdictsAreSticky := by
  refine ⟨fun s f hs e => advance_of_fault hs e, fun s x hs e => advance_of_refused hs e,
    fun s n hs => runFrom_of_marked hs n, fun s hs => ⟨fun t e => ?_, fun i t e => ?_, fun hfinal => ?_⟩⟩
  · exact hs (step_cases e).1
  · exact hs (exec_cases e).1
  · obtain ⟨-, -, hu⟩ := hfinal
    exact hs hu

/-- Settles O36, by the three agents' turns: only CLOCK's moves the line, and only where its cycle is a bit tick. -/
theorem txdChangesOnlyAtBitTicks : Obligations.TxdChangesOnlyAtBitTicks := by
  refine ⟨fun s t h hne => ?_, rfl⟩
  obtain ⟨-, ⟨-, u, hu, rfl⟩ | ⟨hturn, rfl⟩ | ⟨-, rfl⟩⟩ := step_cases h
  · exact absurd (hostStep_txd_rxc hu).1 hne
  · refine ⟨hturn, ?_⟩
    by_contra htick
    exact hne (clockCycle_txd_of_no_bitTick (Bool.eq_false_of_not_eq_true htick))
  · exact absurd rfl hne

/-- Settles O37: each row of the flag table is the one agent that can make that change. -/
theorem flagsChangeOnlyAsTabled : Obligations.FlagsChangeOnlyAsTabled := by
  refine ⟨fun s t h hempty hfull => ?_, fun s t h hfull hempty => ?_, fun s t h hne => ?_, rfl⟩
  · obtain ⟨hturn, st, d, hst, rfl | ⟨w, rfl, hw⟩, hb⟩ := step_fills_only_by_data_write h hempty hfull
    · exact ⟨hturn, d, hb, .inl hst⟩
    · exact ⟨hturn, d, hb, .inr ⟨w, hst, hw⟩⟩
  · obtain ⟨hturn, rfl⟩ := step_empties_only_by_cycle h hfull hempty
    exact ⟨hturn, clockCycle_load hfull hempty⟩
  · by_contra hturn
    exact hne (step_rxc_of_turn_ne_env h hturn)

end Sys2Proof.Proofs

/-! # The words that spell no access (spec/30_encoding.md R38, R39): always refused, and recorded as they were sent -/

namespace Sys2Proof

/-- Row 1 of R37: offset 6 or 7. -/
theorem decode_of_six_le_fieldA {w : BusWord} (ha : 6 ≤ (fieldA w).toNat) :
    decode w = .reserved (fieldW w) (fieldA w) (fieldD w) :=
  if_pos ha

/-- Row 2 of R37: a read at offset 0..5 with a nonzero D field. -/
theorem decode_of_read_fieldD_ne_zero {w : BusWord} (ha : (fieldA w).toNat ≤ 5) (hw : fieldW w = 0) (hd : fieldD w ≠ 0) :
    decode w = .invalid (fieldA w) (fieldD w) := by
  rw [decode, if_neg (by omega), if_pos ⟨hw, hd⟩]

theorem encode_reserved_fields (w : BusWord) : encode (.reserved (fieldW w) (fieldA w) (fieldD w)) = w :=
  packWord_fields w

theorem encode_invalid_fields {w : BusWord} (hw : fieldW w = 0) : encode (.invalid (fieldA w) (fieldD w)) = w := by
  rw [encode, ← hw, packWord_fields]

/-- Field W of a read word (R35). -/
theorem fieldW_eq_zero_of_read {w : BusWord} (h : w.getLsbD 11 = false) : fieldW w = 0 := by
  rw [fieldW_eq_ofBool, h]
  rfl

end Sys2Proof

namespace Sys2Proof.Machine

open Sys2Proof.Safety

variable {s : State}

theorem exec_reserved_of_unmarked (h : Unmarked s) (w : BitVec 1) (a : Offset) (d : Byte) :
    exec (.reserved w a d) s = .refused (.reservedOffset (encode (.reserved w a d))) :=
  unlessMarked_of_unmarked h _

theorem exec_invalid_of_unmarked (h : Unmarked s) (a : Offset) (d : Byte) :
    exec (.invalid a d) s = .refused (.invalidEncoding (encode (.invalid a d))) :=
  unlessMarked_of_unmarked h _

/-- A refusal of an access is recorded, and nothing else changes (R23, R47). -/
theorem advanceAccess_of_refused {i : Instr} {x : Refusal} (h : Unmarked s) (e : exec i s = .refused x) :
    advanceAccess i s = { s with refused := some x } := by
  simp [advanceAccess, e, recordVerdict, marked_eq_false_iff.2 h]

end Sys2Proof.Machine

/-! ## The obligations of 30_encoding.md -/

namespace Sys2Proof.Proofs

open Sys2Proof.Machine Sys2Proof.Safety

/-- Settles O19: row 1 of the decoder keeps the word's fields, so the refusal records the word itself. -/
theorem reservedOffsetAlwaysRefused : Obligations.ReservedOffsetAlwaysRefused := by
  refine ⟨fun s w hs ha => ?_, fun s w a d hs => exec_reserved_of_unmarked hs w a d⟩
  have hexec : exec (decode w) s = .refused (.reservedOffset w) := by
    rw [decode_of_six_le_fieldA ha, exec_reserved_of_unmarked hs, encode_reserved_fields]
  exact ⟨hexec, advanceAccess_of_refused hs hexec⟩

/-- Settles O20: row 2 of the decoder keeps A and D, and W is 0 in a read, so the refusal records the word itself. -/
theorem invalidReadAlwaysRefused : Obligations.InvalidReadAlwaysRefused := by
  refine ⟨fun s w hs ha hread hd => ?_, fun s a d hs => exec_invalid_of_unmarked hs a d⟩
  have hw : fieldW w = 0 := fieldW_eq_zero_of_read hread
  have hexec : exec (decode w) s = .refused (.invalidEncoding w) := by
    rw [decode_of_read_fieldD_ne_zero ha hw hd, exec_invalid_of_unmarked hs, encode_invalid_fields hw]
  exact ⟨hexec, advanceAccess_of_refused hs hexec⟩

end Sys2Proof.Proofs

/-! # The register accesses (spec/40_register_access.md R48-R59): what each answers from an unmarked state -/

namespace Sys2Proof.Machine

open Sys2Proof.Safety

variable {s t : State} {d : Byte}

/-! An access that completes leaves the marks alone (R23), so another access can follow it. -/

@[simp] theorem State.commitDivisor_faulted (s : State) (d : Byte) : (s.commitDivisor d).faulted = s.faulted := by
  obtain ⟨-, e⟩ | ⟨h, -, e⟩ := commitDivisor_cases s d <;> rw [e]

@[simp] theorem State.commitDivisor_refused (s : State) (d : Byte) : (s.commitDivisor d).refused = s.refused := by
  obtain ⟨-, e⟩ | ⟨h, -, e⟩ := commitDivisor_cases s d <;> rw [e]

theorem exec_faulted_refused {i : Instr} (h : exec i s = .next t) :
    t.faulted = s.faulted ∧ t.refused = s.refused := by
  obtain ⟨-, ⟨v, rfl, -⟩ | ⟨d, -, rfl⟩ | ⟨d, -, rfl⟩ | ⟨d, -, -, -, rfl⟩ | ⟨d, -, -, rfl⟩ |
    ⟨d, -, -, -, -, -, rfl⟩⟩ := exec_cases h <;> simp

theorem unmarked_of_exec_eq_next {i : Instr} (h : exec i s = .next t) : Unmarked t := by
  obtain ⟨hfaulted, hrefused⟩ := (exec_cases h).1
  obtain ⟨hf, hr⟩ := exec_faulted_refused h
  exact ⟨hf.trans hfaulted, hr.trans hrefused⟩

/-! The reads (R48-R53): a cell's byte, or a fault where the cell is ⊥; CTRL, STATUS and DATA always complete. -/

theorem exec_rdDivh_of_some (h : Unmarked s) {v : Byte} (hv : s.divh = some v) : exec .rdDivh s = .next (s.setT v) :=
  execRdDivh_eq_next.2 ⟨h, v, hv, rfl⟩

theorem exec_rdDivl_of_some (h : Unmarked s) {v : Byte} (hv : s.divl = some v) : exec .rdDivl s = .next (s.setT v) :=
  execRdDivl_eq_next.2 ⟨h, v, hv, rfl⟩

theorem exec_rdFrame_of_some (h : Unmarked s) {v : Byte} (hv : s.frame = some v) :
    exec .rdFrame s = .next (s.setT v) :=
  execRdFrame_eq_next.2 ⟨h, v, hv, rfl⟩

theorem exec_rdDivh_of_none (h : Unmarked s) (hn : s.divh = none) : exec .rdDivh s = .fault (.unwrittenRead 0) :=
  (unlessMarked_of_unmarked h _).trans (readCell_eq_fault.2 ⟨hn, rfl⟩)

theorem exec_rdDivl_of_none (h : Unmarked s) (hn : s.divl = none) : exec .rdDivl s = .fault (.unwrittenRead 1) :=
  (unlessMarked_of_unmarked h _).trans (readCell_eq_fault.2 ⟨hn, rfl⟩)

theorem exec_rdFrame_of_none (h : Unmarked s) (hn : s.frame = none) : exec .rdFrame s = .fault (.unwrittenRead 3) :=
  (unlessMarked_of_unmarked h _).trans (readCell_eq_fault.2 ⟨hn, rfl⟩)

theorem exec_rdCtrl_of_unmarked (h : Unmarked s) : exec .rdCtrl s = .next (s.setT (ctrlByte s.rxen s.txen)) :=
  unlessMarked_of_unmarked h _

theorem exec_rdStatus_of_unmarked (h : Unmarked s) : exec .rdStatus s = .next (s.setT s.statusByte) :=
  unlessMarked_of_unmarked h _

theorem exec_rdData_of_unmarked (h : Unmarked s) : exec .rdData s = .next (s.setT s.rxdata) :=
  unlessMarked_of_unmarked h _

/-! The bits of the two views (R50, R52), and the bits that a reserved mask clears. -/

theorem getLsbD_ctrlByte_four (rxen txen : Bool) : (ctrlByte rxen txen).getLsbD 4 = rxen := by
  cases rxen <;> cases txen <;> rfl

theorem getLsbD_ctrlByte_three (rxen txen : Bool) : (ctrlByte rxen txen).getLsbD 3 = txen := by
  cases rxen <;> cases txen <;> rfl

theorem getLsbD_ctrlByte_of_ne (rxen txen : Bool) {k : Nat} (h4 : k ≠ 4) (h3 : k ≠ 3) :
    (ctrlByte rxen txen).getLsbD k = false := by
  by_cases hk : k < 8
  · interval_cases k <;> simp_all [ctrlByte]
  · exact BitVec.getLsbD_of_ge _ _ (by omega)

/-- STATUS as a value per flag (R15). -/
theorem State.statusByte_eq (s : State) :
    s.statusByte = (if s.udre then 0x20 else 0x00) ||| if s.rxc then 0x80 else 0x00 := by
  unfold State.statusByte
  cases s.udre <;> cases s.rxc <;> rfl

theorem State.getLsbD_statusByte_seven (s : State) : s.statusByte.getLsbD 7 = s.rxc := by
  rw [s.statusByte_eq]
  cases s.udre <;> cases s.rxc <;> rfl

theorem State.getLsbD_statusByte_five (s : State) : s.statusByte.getLsbD 5 = s.udre := by
  rw [s.statusByte_eq]
  cases s.udre <;> cases s.rxc <;> rfl

theorem State.getLsbD_statusByte_of_ne (s : State) {k : Nat} (h7 : k ≠ 7) (h5 : k ≠ 5) :
    s.statusByte.getLsbD k = false := by
  by_cases hk : k < 8
  · interval_cases k <;> simp_all [State.statusByte]
  · exact BitVec.getLsbD_of_ge _ _ (by omega)

/-- A byte with no bit in the mask `m` has a 0 wherever `m` has a 1. -/
theorem getLsbD_eq_false_of_and_eq_zero {m : Byte} (h : d &&& m = 0#8) {k : Nat} (hk : m.getLsbD k = true) :
    d.getLsbD k = false := by
  have hbit := congrArg (·.getLsbD k) h
  simpa [hk] using hbit

/-- A datum without reserved bits is what its two fields make (R13), so a CTRL write stores it whole (R56). -/
theorem ctrlByte_fields (h : d &&& ctrlReserved = 0#8) : ctrlByte (d.getLsbD 4) (d.getLsbD 3) = d := by
  apply BitVec.eq_of_getLsbD_eq
  intro k hk
  by_cases h4 : k = 4
  · rw [h4, getLsbD_ctrlByte_four]
  by_cases h3 : k = 3
  · rw [h3, getLsbD_ctrlByte_three]
  have hreserved : ctrlReserved.getLsbD k = true := by interval_cases k <;> simp_all [ctrlReserved]
  rw [getLsbD_ctrlByte_of_ne _ _ h4 h3, getLsbD_eq_false_of_and_eq_zero h hreserved]

/-- Where CTRL holds no reserved bit, its view is CTRL itself. -/
theorem exec_rdCtrl_of_no_reservedBits (h : Unmarked s) (hc : s.ctrl &&& ctrlReserved = 0#8) :
    exec .rdCtrl s = .next (s.setT s.ctrl) := by
  rw [exec_rdCtrl_of_unmarked h, State.rxen, State.txen, ctrlByte_fields hc]

/-! The garble mark as a write sets it (R21). -/

theorem State.garbleIfBusy_eq (s : State) :
    s.garbleIfBusy = { s with garble := if s.txIdle then s.garble else true } := by
  cases h : s.txIdle <;> simp [State.garbleIfBusy, h]

theorem State.garbleIfBusy_of_idle (h : s.txIdle = true) : s.garbleIfBusy = s := by
  rw [s.garbleIfBusy_eq, if_pos h]

theorem State.garbleIfBusy_of_busy (h : s.txIdle = false) : s.garbleIfBusy = { s with garble := true } := by
  rw [s.garbleIfBusy_eq, if_neg (by simp [h])]

/-! The writes (R54-R59): those that always complete, then each check of CTRL, FRAME, STATUS and DATA in its place. -/

theorem exec_wrDivh_of_unmarked (h : Unmarked s) (d : Byte) :
    exec (.wrDivh d) s = .next (s.garbleIfBusy.setDivh d) :=
  unlessMarked_of_unmarked h _

theorem exec_wrDivl_of_unmarked (h : Unmarked s) (d : Byte) :
    exec (.wrDivl d) s = .next ((s.garbleIfBusy.commitDivisor d).setDivl d) :=
  unlessMarked_of_unmarked h _

theorem exec_wrCtrl_of_reservedBits (h : Unmarked s) (hd : d &&& ctrlReserved ≠ 0#8) :
    exec (.wrCtrl d) s = .refused (.reservedBits 2 d) :=
  (unlessMarked_of_unmarked h _).trans (if_pos hd)

theorem exec_wrCtrl_of_disabling_while_busy (h : Unmarked s) (hd : d &&& ctrlReserved = 0#8)
    (hoff : d.getLsbD 3 = false) (hon : s.txen = true) (hbusy : s.txIdle = false) :
    exec (.wrCtrl d) s = .refused (.txDisableWhileBusy d) :=
  (unlessMarked_of_unmarked h _).trans ((if_neg (not_not.2 hd)).trans (if_pos ⟨hoff, hon, hbusy⟩))

theorem exec_wrCtrl_stores (h : Unmarked s) (hd : d &&& ctrlReserved = 0#8)
    (hok : ¬(d.getLsbD 3 = false ∧ s.txen = true ∧ s.txIdle = false)) :
    exec (.wrCtrl d) s = .next (s.setCtrl d) :=
  execWrCtrl_eq_next.2 ⟨h, hd, hok, by rw [ctrlByte_fields hd]⟩

theorem exec_wrFrame_of_reservedBits (h : Unmarked s) (hd : d &&& frameReserved ≠ 0#8) :
    exec (.wrFrame d) s = .refused (.reservedBits 3 d) :=
  (unlessMarked_of_unmarked h _).trans (if_pos hd)

theorem exec_wrFrame_stores (h : Unmarked s) (hd : d &&& frameReserved = 0#8) :
    exec (.wrFrame d) s = .next (s.garbleIfBusy.setFrame d) :=
  execWrFrame_eq_next.2 ⟨h, hd, rfl⟩

theorem exec_wrStatus_of_unmarked (h : Unmarked s) (d : Byte) :
    exec (.wrStatus d) s = .refused (.statusWrite d) :=
  unlessMarked_of_unmarked h _

theorem exec_wrData_of_disabled (h : Unmarked s) (hoff : s.txen = false) :
    exec (.wrData d) s = .refused (.dataWriteTxDisabled d) :=
  (unlessMarked_of_unmarked h _).trans (if_pos hoff)

theorem exec_wrData_of_unconfigured (h : Unmarked s) (hon : s.txen = true) (hn : s.divq = none ∨ s.frame = none) :
    exec (.wrData d) s = .fault (.unconfiguredTransmit d) :=
  (unlessMarked_of_unmarked h _).trans ((if_neg (by simp [hon])).trans (if_pos hn))

theorem exec_wrData_of_full (h : Unmarked s) (hon : s.txen = true) (hq : s.divq ≠ none) (hf : s.frame ≠ none)
    (hfull : s.txbFull = true) : exec (.wrData d) s = .fault (.txOverrun d) :=
  (unlessMarked_of_unmarked h _).trans
    ((if_neg (by simp [hon])).trans ((if_neg (not_or.2 ⟨hq, hf⟩)).trans (if_pos hfull)))

theorem exec_wrData_fills (h : Unmarked s) (hon : s.txen = true) (hq : s.divq ≠ none) (hf : s.frame ≠ none)
    (hempty : s.txbFull = false) : exec (.wrData d) s = .next (s.fillTxb d) :=
  execWrData_eq_next.2 ⟨h, hon, hq, hf, hempty, rfl⟩

end Sys2Proof.Machine

/-! ## The obligations of 40_register_access.md -/

namespace Sys2Proof.Proofs

open Sys2Proof.Machine Sys2Proof.Safety

/-- Settles O7: a DIVH write leaves its byte in the cell that RD_DIVH reads. -/
theorem rdDivhReadsStoredByte : Obligations.RdDivhReadsStoredByte := by
  refine ⟨decode_rdWord .divh, fun s hs =>
    ⟨fun v hv => exec_rdDivh_of_some hs hv, exec_rdDivh_of_none hs, fun v u hu => ?_⟩⟩
  obtain ⟨-, rfl⟩ := execWrDivh_eq_next.1 hu
  exact exec_rdDivh_of_some (unmarked_of_exec_eq_next hu) rfl

/-- Settles O8: a DIVL write leaves its byte in the cell that RD_DIVL reads, whether or not it commits a divisor. -/
theorem rdDivlReadsStoredByte : Obligations.RdDivlReadsStoredByte := by
  refine ⟨decode_rdWord .divl, fun s hs =>
    ⟨fun v hv => exec_rdDivl_of_some hs hv, exec_rdDivl_of_none hs, fun v u hu => ?_⟩⟩
  obtain ⟨-, rfl⟩ := execWrDivl_eq_next.1 hu
  exact exec_rdDivl_of_some (unmarked_of_exec_eq_next hu) rfl

/-- Settles O9, by the bits of the byte that CTRL's two fields make; a byte without reserved bits reads back whole. -/
theorem rdCtrlReadsEnables : Obligations.RdCtrlReadsEnables := by
  refine ⟨decode_rdWord .ctrl, fun s hs => ⟨_, exec_rdCtrl_of_unmarked hs, getLsbD_ctrlByte_four _ _,
    getLsbD_ctrlByte_three _ _, fun k => getLsbD_ctrlByte_of_ne _ _⟩, exec_rdCtrl_of_unmarked ⟨rfl, rfl⟩,
    fun s u _ hu => ?_⟩
  obtain ⟨-, hd, -, rfl⟩ := execWrCtrl_eq_next.1 hu
  rw [ctrlByte_fields hd] at hu ⊢
  exact exec_rdCtrl_of_no_reservedBits (unmarked_of_exec_eq_next hu) hd

/-- Settles O10: a FRAME write that completes had no reserved bit, and its byte is in the cell that RD_FRAME reads. -/
theorem rdFrameReadsStoredByte : Obligations.RdFrameReadsStoredByte := by
  refine ⟨decode_rdWord .frame, fun s hs =>
    ⟨fun v hv => exec_rdFrame_of_some hs hv, exec_rdFrame_of_none hs, fun v u hu => ?_⟩⟩
  obtain ⟨-, hv, rfl⟩ := execWrFrame_eq_next.1 hu
  exact ⟨exec_rdFrame_of_some (unmarked_of_exec_eq_next hu) rfl, hv⟩

/-- Settles O11, by the bits of STATUS; a DATA write has just filled the buffer, so UDRE reads 0 after it. -/
theorem rdStatusReadsFlags : Obligations.RdStatusReadsFlags := by
  refine ⟨decode_rdWord .status, fun s hs => ⟨_, exec_rdStatus_of_unmarked hs, s.getLsbD_statusByte_seven,
    s.getLsbD_statusByte_five, fun k => s.getLsbD_statusByte_of_ne⟩,
    ⟨_, exec_rdStatus_of_unmarked ⟨rfl, rfl⟩, congrArg some State.reset.statusByte_eq⟩, fun s u _ hu => ?_⟩
  refine ⟨_, exec_rdStatus_of_unmarked (unmarked_of_exec_eq_next hu), ?_⟩
  obtain ⟨-, -, -, -, -, rfl⟩ := execWrData_eq_next.1 hu
  exact (s.fillTxb 0x61).getLsbD_statusByte_five

/-- Settles O12: a DATA write fills TXB, and RXDATA stays. -/
theorem rdDataReadsReceiveInput : Obligations.RdDataReadsReceiveInput := by
  refine ⟨decode_rdWord .data, fun s hs => ⟨exec_rdData_of_unmarked hs, fun d u hu => ?_⟩⟩
  obtain ⟨-, -, -, -, -, rfl⟩ := execWrData_eq_next.1 hu
  exact exec_rdData_of_unmarked (unmarked_of_exec_eq_next hu)

/-- Settles O13, by the transmitter idle or busy. -/
theorem wrDivhStoresByte : Obligations.WrDivhStoresByte := by
  refine fun s d hs => ⟨decode_wrWord .divh d, fun hidle => ?_, fun hbusy => ?_⟩
  · rw [exec_wrDivh_of_unmarked hs, State.garbleIfBusy_of_idle hidle]
    rfl
  · rw [exec_wrDivh_of_unmarked hs, State.garbleIfBusy_of_busy hbusy]
    rfl

/-- Settles O14, by whether DIVH holds a value for the commit. -/
theorem wrDivlCommitsDivisor : Obligations.WrDivlCommitsDivisor := by
  refine fun s d hs => ⟨decode_wrWord .divl d, fun h hh => ?_, fun hn => ?_⟩
  · rw [exec_wrDivl_of_unmarked hs, commitDivisor_of_some d (s.garbleIfBusy_divh.trans hh), s.garbleIfBusy_eq]
    rfl
  · rw [exec_wrDivl_of_unmarked hs, commitDivisor_of_none d (s.garbleIfBusy_divh.trans hn), s.garbleIfBusy_eq]
    rfl

/-- Settles O15: the third clause is the negation of the second refusal's condition. -/
theorem wrCtrlStoresEnables : Obligations.WrCtrlStoresEnables := by
  refine fun s d hs => ⟨decode_wrWord .ctrl d, exec_wrCtrl_of_reservedBits hs,
    exec_wrCtrl_of_disabling_while_busy hs, fun hd hok => exec_wrCtrl_stores hs hd ?_⟩
  rintro ⟨hoff, hon, hbusy⟩
  obtain h | h | h := hok
  · exact absurd (hoff.symm.trans h) Bool.false_ne_true
  · exact absurd (h.symm.trans hon) Bool.false_ne_true
  · exact absurd (hbusy.symm.trans h) Bool.false_ne_true

/-- Settles O16, by the transmitter idle or busy once no reserved bit is set. -/
theorem wrFrameStoresFormat : Obligations.WrFrameStoresFormat := by
  refine fun s d hs => ⟨decode_wrWord .frame d, exec_wrFrame_of_reservedBits hs,
    fun hd hidle => ?_, fun hd hbusy => ?_⟩
  · rw [exec_wrFrame_stores hs hd, State.garbleIfBusy_of_idle hidle]
    rfl
  · rw [exec_wrFrame_stores hs hd, State.garbleIfBusy_of_busy hbusy]
    rfl

/-- Settles O17: the write has no check and no effect before the refusal. -/
theorem wrStatusAlwaysRefused : Obligations.WrStatusAlwaysRefused := fun _ d hs =>
  ⟨decode_wrWord .status d, exec_wrStatus_of_unmarked hs d,
    advanceAccess_of_refused hs (exec_wrStatus_of_unmarked hs d)⟩

/-- Settles O18: one lemma per check of WR_DATA, in the order of the checks. -/
theorem wrDataFillsBuffer : Obligations.WrDataFillsBuffer := fun _ d hs =>
  ⟨decode_wrWord .data d, exec_wrData_of_disabled hs, exec_wrData_of_unconfigured hs, exec_wrData_of_full hs,
    exec_wrData_fills hs⟩

end Sys2Proof.Proofs

/-! # CLOCK's turn and the reload of the prescaler (spec/41_baud_divider.md R61, R65, R66) -/

namespace Sys2Proof.Machine

open Sys2Proof.Safety

variable {s : State}

/-- CLOCK's turn always completes: the cycle, then the draw of the next turn (R65). -/
theorem step_of_clock_turn (h : Unmarked s) (ht : s.turn = .clock) : step s = .next (clockCycle s).passTurn := by
  rw [step, unlessMarked_of_unmarked h, ht]

/-- No agent's step completes in a marked state (R23, R47, R65). -/
theorem step_ne_next_of_marked (h : ¬Unmarked s) (t : State) : step s ≠ .next t :=
  fun e => h (step_cases e).1

/-- Above 0x0FFF the divisor is counted with as OOR_DIV gives it (R61). -/
theorem effectiveDivisor_of_gt {q : Divisor} (h : 0x0FFF < q.toNat) : effectiveDivisor q = Config.oorDiv q :=
  if_neg (not_le.2 h)

/-- At PRESC = 0 the prescaler ticks and reloads from E(DIVQ), which is ⊥ where DIVQ is ⊥ (R61, R66). -/
theorem prescalerPhase_of_zero (h : s.presc = some 0#12) :
    prescalerPhase s = ({ s with presc := s.divq.map effectiveDivisor }, true) := by
  obtain ⟨hn, -⟩ | ⟨-, e⟩ | ⟨p, hp, hne, -⟩ := prescalerPhase_cases s
  · simp [h] at hn
  · exact e
  · exact absurd (Option.some.inj (hp.symm.trans h)) hne

end Sys2Proof.Machine

/-! ## The obligations of 41_baud_divider.md -/

namespace Sys2Proof.Proofs

open Sys2Proof.Machine Sys2Proof.Safety

/-- Settles O34: CLOCK's turn is one cycle, and a cycle is by definition its five phases and WAIT's countdown. -/
theorem clockStepNeverRaises : Obligations.ClockStepNeverRaises :=
  ⟨fun _ hs ht => step_of_clock_turn hs ht, fun _ hs _ => step_ne_next_of_marked hs⟩

/-- Settles O38: E's two branches, the reload at PRESC = 0, and the DIVL write, which has no check. -/
theorem effectiveDivisorRule : Obligations.EffectiveDivisorRule := by
  refine ⟨fun q => effectiveDivisor_of_le, fun q => effectiveDivisor_of_gt, fun s hq hp => ?_,
    fun s d hs => ⟨_, exec_wrDivl_of_unmarked hs d⟩⟩
  rw [prescalerPhase_of_zero hp, hq]
  rfl

end Sys2Proof.Proofs

/-! # The frame and the transmit phases of a cycle (spec/42_transmit_shift.md R70-R74) -/

namespace Sys2Proof.Machine

open Sys2Proof.Safety

variable {s t : State} {b f : Byte} {k : Nat}

/-! The bits of a frame by their place on the line (R70): the start bit, the data bits, the stop bits. -/

theorem frameBits_getElem?_start (b f : Byte) : (frameBits b f)[0]? = some false := rfl

theorem frameBits_getElem?_data (h : k < dataBits f) : (frameBits b f)[1 + k]? = some (b.getLsbD k) := by
  rw [frameBits, Nat.add_comm, List.getElem?_cons_succ, List.getElem?_append_left (by simpa using h)]
  simp [h]

theorem frameBits_getElem?_stop (h : k < stopBits f) : (frameBits b f)[1 + dataBits f + k]? = some true := by
  rw [frameBits, show 1 + dataBits f + k = dataBits f + k + 1 by omega, List.getElem?_cons_succ,
    List.getElem?_append_right (by simp)]
  simp [h]

/-- The bits of the byte above the data width are not sent (R70). -/
theorem frameBits_congr {b' : Byte} (h : ∀ k, k < dataBits f → b'.getLsbD k = b.getLsbD k) :
    frameBits b' f = frameBits b f := by
  have hdata : (List.range (dataBits f)).map b'.getLsbD = (List.range (dataBits f)).map b.getLsbD :=
    List.map_congr_left fun k hk => h k (List.mem_range.1 hk)
  rw [frameBits, frameBits, hdata]

/-! Phase 3, with no bit left and with one (R72). -/

theorem shiftPhase_true_of_nil (h : s.tsrQ = []) : shiftPhase true s = { s with tsrActive := false, txd := true } := by
  simp [shiftPhase, h]

theorem shiftPhase_true_of_cons {x : Bool} {rest : List Bool} (h : s.tsrQ = x :: rest) :
    shiftPhase true s =
      { s with tsrQ := rest, tsrActive := true, txd := s.lineValue x,
               draws := if s.garble then s.draws + 1 else s.draws } := by
  simp [shiftPhase, h]

theorem State.lineValue_of_clean (h : s.garble = false) (x : Bool) : s.lineValue x = x :=
  if_neg (by simp [h])

theorem State.lineValue_of_garbled (h : s.garble = true) (x : Bool) : s.lineValue x = Config.drawBit s.draws :=
  if_pos h

/-! Phase 4, where its conditions hold and where one does not (R73). -/

theorem loadPhase_loads (hen : s.txen = true) (hfull : s.txbFull = true) (hq : s.tsrQ = []) (hb : s.txb = some b)
    (hf : s.frame = some f) : loadPhase s = { s with tsrQ := frameBits b f, txbFull := false } := by
  simp [loadPhase, hen, hfull, hq, hb, hf]

theorem loadPhase_of_not_ready (h : ¬(s.txen = true ∧ s.txbFull = true ∧ s.tsrQ = [])) : loadPhase s = s :=
  if_neg h

/-- A full buffer keeps the transmitter from being idle (R24). -/
theorem txIdle_of_full (h : s.txbFull = true) : s.txIdle = false := by
  simp [State.txIdle, h]

/-- A full buffer holds a byte, and FRAME its format (R59, R73). -/
theorem txb_frame_of_full (hs : MachineInv s) (h : s.txbFull = true) : ∃ b f, s.txb = some b ∧ s.frame = some f := by
  obtain ⟨b, hb⟩ := Option.isSome_iff_exists.1 (hs.fullHoldsByte h)
  obtain ⟨f, hf⟩ := Option.isSome_iff_exists.1 (hs.busyConfigured (txIdle_of_full h)).1
  exact ⟨b, f, hb, hf⟩

/-! Phase 5, and what becomes of GARBLE in each agent's turn (R74). -/

theorem garblePhase_of_idle (h : s.txIdle = true) : garblePhase s = { s with garble := false } :=
  if_pos h

theorem garblePhase_of_busy (h : s.txIdle = false) : garblePhase s = s :=
  if_neg (by simp [h])

@[simp] theorem garblePhase_txIdle (s : State) : (garblePhase s).txIdle = s.txIdle := by
  simp [State.txIdle]

/-- Phase 5 leaves GARBLE at 1 or finds the transmitter idle. -/
theorem garblePhase_garbled (h : s.garble = true) : (garblePhase s).garble = true ∨ (garblePhase s).txIdle = true := by
  cases hidle : s.txIdle with
  | true => exact .inr (by rw [garblePhase_txIdle, hidle])
  | false => exact .inl (by rw [garblePhase_of_busy hidle, h])

theorem clockCycle_garbled (h : s.garble = true) : (clockCycle s).garble = true ∨ (clockCycle s).txIdle = true :=
  garblePhase_garbled (by simpa using h)

@[simp] theorem State.commitDivisor_garble (s : State) (d : Byte) : (s.commitDivisor d).garble = s.garble := by
  obtain ⟨-, e⟩ | ⟨h, -, e⟩ := commitDivisor_cases s d <;> rw [e]

/-- No access clears GARBLE (R21). -/
theorem exec_garbled {i : Instr} (h : exec i s = .next t) (hg : s.garble = true) : t.garble = true := by
  obtain ⟨-, ⟨v, rfl, -⟩ | ⟨d, -, rfl⟩ | ⟨d, -, rfl⟩ | ⟨d, -, -, -, rfl⟩ | ⟨d, -, -, rfl⟩ |
    ⟨d, -, -, -, -, -, rfl⟩⟩ := exec_cases h <;> simp [hg]

theorem hostStep_garbled (h : hostStep s = .next t) (hg : s.garble = true) : t.garble = true := by
  obtain ⟨i, u, e, rfl | rfl⟩ | rfl | rfl | ⟨n, rfl⟩ | ⟨n, rfl⟩ := hostStep_cases h
  case inl.inl => exact exec_garbled e hg
  case inl.inr => simpa using exec_garbled e hg
  all_goals exact hg

end Sys2Proof.Machine

/-! ## The obligations of 42_transmit_shift.md -/

namespace Sys2Proof.Proofs

open Sys2Proof.Machine Sys2Proof.Safety

/-- Settles O43, by one lemma per part of the frame; the bounds are those of the two fields of FRAME. -/
theorem frameBitsInLineOrder : Obligations.FrameBitsInLineOrder := by
  intro b f
  have hdata : dataBits f ≤ 8 := dataBits_le f
  have hstop : stopBits f ≤ 2 := stopBits_le f
  have hmin : 5 ≤ dataBits f ∧ 1 ≤ stopBits f := ⟨Nat.le_add_right .., Nat.le_add_right ..⟩
  change _ ∧ 7 ≤ 1 + dataBits f + stopBits f ∧ 1 + dataBits f + stopBits f ≤ 11 ∧ _
  exact ⟨frameBits_length b f, by omega, by omega, frameBits_getElem?_start b f,
    fun _ => frameBits_getElem?_data, fun _ => frameBits_getElem?_stop, fun _ => frameBits_congr,
    frameBits_length b 0x0E⟩

/-- Settles O45: the invariant gives a full buffer its byte and its format, and a FRAME write leaves TSR_Q alone. -/
theorem loadPhaseMovesByte : Obligations.LoadPhaseMovesByte := by
  refine ⟨fun s hs hen hfull hq => ?_, fun s hnot => loadPhase_of_not_ready ?_, fun s t d h => ?_⟩
  · obtain ⟨b, f, hb, hf⟩ := txb_frame_of_full hs hfull
    exact ⟨b, f, hb, hf, loadPhase_loads hen hfull hq hb hf⟩
  · rintro ⟨hen, hfull, hq⟩
    obtain h | h | h := hnot
    · exact absurd (h.symm.trans hen) Bool.false_ne_true
    · exact absurd (h.symm.trans hfull) Bool.false_ne_true
    · exact h hq
  · obtain ⟨-, -, rfl⟩ := execWrFrame_eq_next.1 h
    exact ⟨rfl, fun hbusy => by rw [State.garbleIfBusy_of_busy hbusy]; rfl⟩

/-- Settles O46, by the three agents' turns: HOST and ENV never clear GARBLE, and CLOCK's cycle ends in phase 5. -/
theorem garbledUntilIdle : Obligations.GarbledUntilIdle := by
  refine ⟨fun s => garblePhase_of_idle, fun s => garblePhase_of_busy, fun s t h hg => ?_⟩
  obtain ⟨-, ⟨-, u, hu, rfl⟩ | ⟨-, rfl⟩ | ⟨-, rfl⟩⟩ := step_cases h
  · exact .inl (by simpa using hostStep_garbled hu hg)
  · exact clockCycle_garbled hg
  · exact .inl hg

/-- Settles O44, by the bits left in TSR_Q and GARBLE. -/
theorem shiftPhaseDrivesNextBit : Obligations.ShiftPhaseDrivesNextBit := by
  refine fun s => ⟨rfl, shiftPhase_true_of_nil, fun x rest hq hg => ?_, fun x rest hq hg => ?_⟩
  · rw [shiftPhase_true_of_cons hq, State.lineValue_of_clean hg, hg]
    rfl
  · rw [shiftPhase_true_of_cons hq, State.lineValue_of_garbled hg, hg]
    rfl

end Sys2Proof.Proofs

/-! # HOST's statements (spec/43_host_sequences.md R82-R85) -/

/-! ## HOST's turn, statement by statement, and what stays once HOST is done -/

namespace Sys2Proof.Machine

open Sys2Proof.Safety

variable {s t : State}

/-! The step by whose turn it is, beside CLOCK's (R93): HOST's with no statement to run, and ENV's. -/

theorem step_of_host_turn (h : Unmarked s) (ht : s.turn = .host) : step s = onNext (hostStep s) State.passTurn := by
  rw [step, unlessMarked_of_unmarked h, ht]

theorem step_of_env_turn (h : Unmarked s) (ht : s.turn = .env) : step s = .next (envChange s).passTurn := by
  rw [step, unlessMarked_of_unmarked h, ht]

theorem hostReady_of_running (hh : s.halted = false) (hw : s.wait = 0) : s.hostReady = true :=
  hostReady_eq_true.2 ⟨hh, hw⟩

/-- A HOST that is halted or waiting lets its turn pass (R81; log 2). -/
theorem hostStep_of_not_ready (hr : s.hostReady = false) : hostStep s = .next s :=
  if_neg (by simp [hr])

theorem hostStep_of_halted (hh : s.halted = true) : hostStep s = .next s :=
  hostStep_of_not_ready (by simp [State.hostReady, hh])

theorem hostStep_of_waiting (hw : s.wait ≠ 0) : hostStep s = .next s :=
  hostStep_of_not_ready (by simp [State.hostReady, hw])

/-- Past the last statement a ready HOST halts (R85; log 24). -/
theorem hostStep_past_end (hr : s.hostReady = true) (hp : s.program[s.pc]? = none) : hostStep s = .next s.halt := by
  simp only [hostStep, hr, hp, if_true]

/-! A step that raises a verdict leaves pc where it is, and the run is then quiescent (R23, R47, R82). -/

theorem advance_quiescent_of_fault {f : Fault} (h : Unmarked s) (e : step s = .fault f) :
    (advance s).pc = s.pc ∧ advance (advance s) = advance s := by
  rw [advance_of_fault h e]
  exact ⟨rfl, advance_of_marked (by simp [Unmarked])⟩

theorem advance_quiescent_of_refused {x : Refusal} (h : Unmarked s) (e : step s = .refused x) :
    (advance s).pc = s.pc ∧ advance (advance s) = advance s := by
  rw [advance_of_refused h e]
  exact ⟨rfl, advance_of_marked (by simp [Unmarked])⟩

/-- A `wr` or `rd` issues the access of its word, then moves pc by one (R82). -/
theorem runStmt_of_wr_or_rd {st : Stmt} {w : BusWord}
    (h : (∃ r v, st = .wr r v ∧ w = wrWord r v) ∨ ∃ r, st = .rd r ∧ w = rdWord r) (s : State) :
    runStmt st s = onNext (exec (decode w) s) State.nextPc := by
  obtain ⟨r, v, rfl, rfl⟩ | ⟨r, rfl, rfl⟩ := h <;> rfl

/-! The read that a poll makes (R83): it leaves pc to the poll, faults only at ⊥, and is never refused. -/

/-- A read that completes writes t and nothing else. -/
theorem exec_rdWord_eq_next {r : Reg} (h : exec (decode (rdWord r)) s = .next t) : ∃ v, t = s.setT v := by
  rw [decode_rdWord] at h
  obtain ⟨-, ⟨v, rfl, -⟩ | ⟨d, hd, -⟩ | ⟨d, hd, -⟩ | ⟨d, hd, -⟩ | ⟨d, hd, -⟩ | ⟨d, hd, -⟩⟩ := exec_cases h
  case inl => exact ⟨v, rfl⟩
  all_goals cases r <;> cases hd

theorem exec_rdWord_ne_refused (h : Unmarked s) (r : Reg) (x : Refusal) : exec (decode (rdWord r)) s ≠ .refused x := by
  rw [decode_rdWord]
  have guarded (q : Result) (hq : q ≠ .refused x) : unlessMarked s q ≠ .refused x := by
    rwa [unlessMarked_of_unmarked h]
  cases r with
  | divh => exact guarded _ readCell_ne_refused
  | divl => exact guarded _ readCell_ne_refused
  | frame => exact guarded _ readCell_ne_refused
  | ctrl => exact guarded _ nofun
  | status => exact guarded _ nofun
  | data => exact guarded _ nofun

/-- After a read of `v` the poll moves on exactly where bit `k` of `v` is 1 (R83). -/
theorem pollPc_setT (k : Fin 8) (s : State) (v : Byte) :
    (s.setT v).pollPc k = { s.setT v with pc := if v.getLsbD k then s.pc + 1 else s.pc } := by
  change (if v.getLsbD k then (s.setT v).nextPc else s.setT v) = _
  cases v.getLsbD k <;> rfl

/-- CLOCK cycles count WAIT down, and it stays at 0 (R84). -/
theorem clockCycles_wait (n : Nat) (s : State) : (clockCycles n s).wait = s.wait - n := by
  induction n generalizing s with
  | zero => rfl
  | succ n ih =>
    calc (clockCycles n (clockCycle s)).wait = (clockCycle s).wait - n := ih _
      _ = s.wait - (n + 1) := by rw [clockCycle_wait]; omega

/-- Only CLOCK's turn changes a WAIT that is not 0: a waiting HOST has no step, and ENV drives only inputs (R84). -/
theorem step_wait_of_turn_ne_clock (h : step s = .next t) (hw : s.wait ≠ 0) (hturn : s.turn ≠ .clock) :
    t.wait = s.wait := by
  obtain ⟨-, ⟨-, u, hu, rfl⟩ | ⟨hclock, -⟩ | ⟨-, rfl⟩⟩ := step_cases h
  · rw [hostStep_of_waiting hw] at hu
    rw [next_eq_next.1 hu, State.passTurn_wait]
  · exact absurd hclock hturn
  · rfl

/-! An idle transmitter stays idle through a cycle (R24, R72, R73): nothing is left to drive and nothing to load. -/

@[simp] theorem prescalerPhase_txIdle (s : State) : (prescalerPhase s).1.txIdle = s.txIdle := by
  simp [State.txIdle]

@[simp] theorem oversamplePhase_txIdle (b : Bool) (s : State) : (oversamplePhase b s).1.txIdle = s.txIdle := by
  simp [State.txIdle]

theorem shiftPhase_txIdle_of_idle (b : Bool) (h : s.txIdle = true) : (shiftPhase b s).txIdle = true := by
  obtain ⟨hfull, hq, hactive⟩ := txIdle_eq_true.1 h
  cases b with
  | false => exact h
  | true =>
    rw [shiftPhase_true_of_nil hq]
    exact txIdle_eq_true.2 ⟨hfull, hq, rfl⟩

theorem loadPhase_of_idle (h : s.txIdle = true) : loadPhase s = s := by
  obtain ⟨hempty, -, -⟩ := txIdle_eq_true.1 h
  exact loadPhase_of_not_ready fun ⟨_, hfull, _⟩ => by simp [hempty] at hfull

theorem clockCycle_txIdle_of_idle (h : s.txIdle = true) : (clockCycle s).txIdle = true := by
  have hshift (b : Bool) :
      (shiftPhase b (oversamplePhase (prescalerPhase s).2 (prescalerPhase s).1).1).txIdle = true :=
    shiftPhase_txIdle_of_idle b (by simpa using h)
  simp only [clockCycle, State.countWait_txIdle, garblePhase_txIdle, loadPhase_of_idle (hshift _), hshift]

theorem advance_of_next (e : step s = .next t) : advance s = t := by
  simp only [advance, e, recordVerdict]

/-- From a state that is final for HOST every agent's step completes in one, and moves neither pc nor t (R85). -/
theorem step_of_final (h : FinalForHost s) : ∃ t, step s = .next t ∧ FinalForHost t ∧ t.pc = s.pc ∧ t.t = s.t := by
  obtain ⟨hhalted, hidle, hs⟩ := h
  cases hturn : s.turn with
  | host =>
    refine ⟨s.passTurn, ?_, ⟨hhalted, hidle, hs⟩, rfl, rfl⟩
    rw [step_of_host_turn hs hturn, hostStep_of_halted hhalted]
    rfl
  | clock =>
    refine ⟨_, step_of_clock_turn hs hturn, ⟨?_, clockCycle_txIdle_of_idle hidle, ?_⟩, ?_, ?_⟩
    · simpa using hhalted
    · simpa [Unmarked] using hs
    · simp
    · simp
  | env => exact ⟨_, step_of_env_turn hs hturn, ⟨hhalted, hidle, hs⟩, rfl, rfl⟩

/-- A run from a state that is final for HOST stays in such states, with pc and t as they were (R85). -/
theorem runFrom_of_final (h : FinalForHost s) (n : Nat) :
    FinalForHost (runFrom s n) ∧ (runFrom s n).pc = s.pc ∧ (runFrom s n).t = s.t := by
  induction n with
  | zero => exact ⟨h, rfl, rfl⟩
  | succ n ih =>
    obtain ⟨hfinal, hpc, ht⟩ := ih
    obtain ⟨u, hu, hfinal', hpc', ht'⟩ := step_of_final hfinal
    rw [runFrom, advance_of_next hu]
    exact ⟨hfinal', hpc'.trans hpc, ht'.trans ht⟩

end Sys2Proof.Machine

/-! ## The obligations of 43_host_sequences.md -/

namespace Sys2Proof.Proofs

open Sys2Proof.Machine Sys2Proof.Safety

/-- Settles O29: both statements are their word's access with pc moved where it completes; a verdict passes through. -/
theorem hostWriteAndRead : Obligations.HostWriteAndRead := by
  intro s st w hs hturn hh hw hp hst
  have hstep : step s = onNext (onNext (exec (decode w) s) State.nextPc) State.passTurn := by
    rw [step_of_stmt hs hturn (hostReady_of_running hh hw) hp, runStmt_of_wr_or_rd hst]
  refine ⟨fun t e => by rw [hstep, e]; rfl, fun f e => ?_, fun x e => ?_⟩
  · have hfault : step s = .fault f := by rw [hstep, e]; rfl
    exact ⟨hfault, advance_quiescent_of_fault hs hfault⟩
  · have hrefused : step s = .refused x := by rw [hstep, e]; rfl
    exact ⟨hrefused, advance_quiescent_of_refused hs hrefused⟩

/-- Settles O30: the poll is its read, then pc by the bit just read; what the read raises, the poll raises. -/
theorem hostPollRepeatsUntilSet : Obligations.HostPollRepeatsUntilSet := by
  intro s r k hs hturn hh hw hp
  have hstep : step s = onNext (onNext (exec (decode (rdWord r)) s) (State.pollPc k)) State.passTurn :=
    step_of_stmt hs hturn (hostReady_of_running hh hw) hp
  have hraise {f : Fault} (e : exec (decode (rdWord r)) s = .fault f) : step s = .fault f := by rw [hstep, e]; rfl
  refine ⟨fun t v e hv => ?_, fun f e => ⟨hraise e, advance_quiescent_of_fault hs (hraise e)⟩,
    ?_, ?_, ?_, fun x e => ?_⟩
  · obtain ⟨u, rfl⟩ := exec_rdWord_eq_next e
    obtain rfl : u = v := Option.some.inj hv
    rw [hstep, e, ← pollPc_setT]
    rfl
  · rintro rfl hn
    exact hraise (exec_rdDivh_of_none hs hn)
  · rintro rfl hn
    exact hraise (exec_rdDivl_of_none hs hn)
  · rintro rfl hn
    exact hraise (exec_rdFrame_of_none hs hn)
  · rw [hstep, onNext_eq_refused, onNext_eq_refused] at e
    exact exec_rdWord_ne_refused hs r x e

/-- Settles O31: the statement sets WAIT, each cycle takes 1 from it, and a HOST that waits has no step. -/
theorem hostDelayWaits : Obligations.HostDelayWaits := by
  refine ⟨fun s n hs hturn hh hw hp => step_of_stmt hs hturn (hostReady_of_running hh hw) hp, fun s hs hturn hw => ?_,
    fun s n => clockCycles_wait n s, fun s t h hw hturn => step_wait_of_turn_ne_clock h hw hturn⟩
  rw [step_of_host_turn hs hturn, hostStep_of_waiting hw]
  rfl

/-- Settles O32: the two statements and the program's end as HOST's turn runs them; the last clause by induction on the
run, a final state's step being final again. -/
theorem hostJumpAndHalt : Obligations.HostJumpAndHalt := by
  refine ⟨fun s n hs hturn hh hw hp => step_of_stmt hs hturn (hostReady_of_running hh hw) hp,
    fun s hs hturn hh hw hend => ?_, fun s hs hturn hhalted => ?_, fun s hhalted hidle hs => ?_⟩
  · have hr : s.hostReady = true := hostReady_of_running hh hw
    obtain hp | hp := hend
    · exact step_of_stmt hs hturn hr hp
    · rw [step_of_host_turn hs hturn, hostStep_past_end hr (List.getElem?_eq_none hp)]
      rfl
  · rw [step_of_host_turn hs hturn, hostStep_of_halted hhalted]
    rfl
  · have hfinal : FinalForHost s := ⟨hhalted, hidle, hs⟩
    exact ⟨hfinal, fun n => runFrom_of_final hfinal n⟩

end Sys2Proof.Proofs

/-! # The order of the checks (spec/60_exceptions.md R92) -/

namespace Sys2Proof.Machine

open Sys2Proof.Safety

variable {s : State}

/-- A wide access is refused before its offset is looked at (R28). -/
theorem runStmt_wide_of_unmarked (h : Unmarked s) (off : Offset) (extra : Nat) :
    runStmt (.wide off extra) s = .refused (.wideAccess (extra + 2)) :=
  unlessMarked_of_unmarked h _

/-- WR_DATA's checks as one chain (R59): X6, then F3, then F2, then the fill. -/
theorem exec_wrData_of_unmarked (h : Unmarked s) (d : Byte) :
    exec (.wrData d) s =
      if s.txen = false then .refused (.dataWriteTxDisabled d)
      else if s.divq = none ∨ s.frame = none then .fault (.unconfiguredTransmit d)
      else if s.txbFull = true then .fault (.txOverrun d)
      else .next (s.fillTxb d) := by
  split_ifs with hoff hn hfull
  · exact exec_wrData_of_disabled h hoff
  all_goals have hon : s.txen = true := Bool.eq_true_of_not_eq_false hoff
  · exact exec_wrData_of_unconfigured h hon hn
  all_goals obtain ⟨hq, hf⟩ := not_or.1 hn
  · exact exec_wrData_of_full h hon hq hf hfull
  · exact exec_wrData_fills h hon hq hf (Bool.eq_false_of_not_eq_true hfull)

end Sys2Proof.Machine

/-! ## The obligations of 60_exceptions.md -/

namespace Sys2Proof.Proofs

open Sys2Proof.Machine Sys2Proof.Safety

/-- Settles O24: X7 before any decoding, X1 and X2 as the decoder's first two rows, then the checks of CTRL and DATA in
the order of their rules. -/
theorem checksRunInOrder : Obligations.ChecksRunInOrder := by
  refine fun s hs => ⟨runStmt_wide_of_unmarked hs, fun w ha => ?_, fun w ha hread hd => ?_,
    fun _ hd => exec_wrCtrl_of_reservedBits hs hd,
    fun _ hd hoff hon hbusy => exec_wrCtrl_of_disabling_while_busy hs hd hoff hon hbusy, exec_wrData_of_unmarked hs⟩
  · obtain ⟨hword, -⟩ := reservedOffsetAlwaysRefused
    exact (hword s w hs ha).1
  · obtain ⟨hword, -⟩ := invalidReadAlwaysRefused
    exact (hword s w hs (Nat.le_of_lt_succ ha) hread hd).1

end Sys2Proof.Proofs

/-! # The decoder's rows and the encoder (spec/30_encoding.md R35-R41): each word is one access, each access one word -/

namespace Sys2Proof

open Sys2Proof.Laws.EncodeFields

variable {w : BusWord} {a : Offset} {d : Byte}

/-! Rows 3 to 14 of R37, by the word's fields and by the packed word. -/

theorem offset_cases (a : Offset) : a = 0 ∨ a = 1 ∨ a = 2 ∨ a = 3 ∨ a = 4 ∨ a = 5 ∨ a = 6 ∨ a = 7 := by
  revert a; decide

theorem decode_of_read (ha : (fieldA w).toNat ≤ 5) (hw : fieldW w = 0#1) (hd : fieldD w = 0#8) :
    decode w = readAt (fieldA w) := by
  rw [decode, if_neg (by omega), if_neg (fun h => h.2 hd), if_pos hw]

theorem decode_of_write (ha : (fieldA w).toNat ≤ 5) (hw : fieldW w ≠ 0#1) :
    decode w = writeAt (fieldA w) (fieldD w) := by
  rw [decode, if_neg (by omega), if_neg (fun h => hw h.1), if_neg hw]

theorem decode_packWord_write (ha : a.toNat ≤ 5) (d : Byte) : decode (packWord 1 a d) = writeAt a d := by
  have hdecode : decode (packWord 1 a d) = writeAt (fieldA (packWord 1 a d)) (fieldD (packWord 1 a d)) :=
    decode_of_write (by rwa [fieldA_packWord]) (by rw [fieldW_packWord]; decide)
  rwa [fieldA_packWord, fieldD_packWord] at hdecode

/-- Field W of a write word (R35). -/
theorem fieldW_ne_zero_of_write (h : w.getLsbD 11 = true) : fieldW w ≠ 0#1 := by
  rw [fieldW_eq_ofBool, h]
  decide

/-! The words of rows 3 to 14 (R37); they are the packed words at offsets 6 and 7 as well. -/

theorem encode_readAt (a : Offset) : encode (readAt a) = packWord 0 a 0 := by
  revert a; decide

theorem encode_writeAt (a : Offset) (d : Byte) : encode (writeAt a d) = packWord 1 a d := by
  obtain rfl | rfl | rfl | rfl | rfl | rfl | rfl | rfl := offset_cases a <;> rfl

theorem wellFormed_readAt (a : Offset) : (readAt a).wellFormed = true := by
  revert a; decide

theorem wellFormed_writeAt (a : Offset) (d : Byte) : (writeAt a d).wellFormed = true := by
  obtain rfl | rfl | rfl | rfl | rfl | rfl | rfl | rfl := offset_cases a <;> rfl

/-- Whichever row a word falls in, its access is well formed and has that word (R37). -/
theorem decode_wellFormed_and_encode (w : BusWord) : (decode w).wellFormed = true ∧ encode (decode w) = w := by
  by_cases ha : 6 ≤ (fieldA w).toNat
  · rw [decode_of_six_le_fieldA ha]
    exact ⟨decide_eq_true ha, encode_reserved_fields w⟩
  have ha5 : (fieldA w).toNat ≤ 5 := by omega
  by_cases hw : fieldW w = 0#1
  · by_cases hd : fieldD w = 0#8
    · rw [decode_of_read ha5 hw hd]
      refine ⟨wellFormed_readAt _, ?_⟩
      calc encode (readAt (fieldA w)) = packWord (fieldW w) (fieldA w) (fieldD w) := by rw [encode_readAt, hw, hd]; rfl
        _ = w := packWord_fields w
    · rw [decode_of_read_fieldD_ne_zero ha5 hw hd]
      exact ⟨by simp [Instr.wellFormed, ha5, hd], encode_invalid_fields hw⟩
  · have hw1 : fieldW w = 1#1 := (BitVec.eq_zero_or_eq_one (fieldW w)).resolve_left hw
    rw [decode_of_write ha5 hw]
    refine ⟨wellFormed_writeAt _ _, ?_⟩
    calc encode (writeAt (fieldA w) (fieldD w)) = packWord (fieldW w) (fieldA w) (fieldD w) := by
          rw [encode_writeAt, hw1]; rfl
      _ = w := packWord_fields w

end Sys2Proof

namespace Sys2Proof.Machine

/-- An address in the window selects the offset it is the address of, and no other address selects any (R26, R36). -/
theorem decodeAddress_eq_some {addr : Nat} {a : Offset} : decodeAddress addr = some a ↔ addr = busAddress a := by
  have ha : a.toNat < 8 := a.isLt
  rw [decodeAddress, busAddress, Config.regWindow]
  constructor
  · intro h
    obtain ⟨hwindow, rfl⟩ := Option.ite_some_none_eq_some.1 h
    rw [BitVec.toNat_ofNat]
    omega
  · rintro rfl
    rw [if_pos (by omega), Nat.add_sub_cancel_left, BitVec.ofNat_toNat, BitVec.setWidth_eq]

end Sys2Proof.Machine

/-! ## The obligations of 30_encoding.md and 20_memory.md, beside the words that spell no access -/

namespace Sys2Proof.Proofs

open Sys2Proof.Machine

/-- Settles O2, by the constructors: the six read words are closed, a write's packed word falls in its own row, and the
conditions of rows 1 and 2 are the well-formedness of RESERVED and INVALID. -/
theorem decodeEncodeRoundTrip : Obligations.DecodeEncodeRoundTrip := by
  intro i hi
  cases i with
  | rdDivh => rfl
  | rdDivl => rfl
  | rdCtrl => rfl
  | rdFrame => rfl
  | rdStatus => rfl
  | rdData => rfl
  | wrDivh d => exact decode_packWord_write (by decide) d
  | wrDivl d => exact decode_packWord_write (by decide) d
  | wrCtrl d => exact decode_packWord_write (by decide) d
  | wrFrame d => exact decode_packWord_write (by decide) d
  | wrStatus d => exact decode_packWord_write (by decide) d
  | wrData d => exact decode_packWord_write (by decide) d
  | reserved w a d => rw [encode, decode_packWord, if_pos (of_decide_eq_true hi)]
  | invalid a d =>
    obtain ⟨ha, hd⟩ : a.toNat ≤ 5 ∧ d ≠ 0#8 := by simpa [Instr.wellFormed] using hi
    rw [encode, decode_packWord, if_neg (by omega), if_pos ⟨rfl, hd⟩]

/-- Settles O4: rows 1 and 2 by the fields, rows 9 to 14 as the write at the word's offset, rows 3 to 8 by their
words. -/
theorem decodeFollowsTable : Obligations.DecodeFollowsTable := by
  refine fun w => ⟨fun ha => decode_of_six_le_fieldA ?_, fun ha hread hd =>
    decode_of_read_fieldD_ne_zero ha (fieldW_eq_zero_of_read hread) hd, fun hwrite => ?_, rfl, rfl, rfl, rfl, rfl, rfl⟩
  · rw [fieldA]
    obtain ha | ha := ha <;> rw [ha] <;> decide
  · have row {a : Offset} (ha5 : a.toNat ≤ 5) (ha : fieldA w = a) : decode w = writeAt a (fieldD w) := by
      subst ha
      exact decode_of_write ha5 (fieldW_ne_zero_of_write hwrite)
    exact ⟨row (by decide), row (by decide), row (by decide), row (by decide), row (by decide), row (by decide)⟩

/-- Settles O1: the words are closed. -/
theorem decodeSampleWords : Obligations.DecodeSampleWords := by
  unfold Obligations.DecodeSampleWords
  decide

/-- Settles O3, by the four kinds of row. -/
theorem encodeDecodeRoundTrip : Obligations.EncodeDecodeRoundTrip :=
  decode_wellFormed_and_encode

/-- Settles O5: the words are those of the write and of the read at the register's offset. -/
theorem statementWordsDecode : Obligations.StatementWordsDecode := by
  refine ⟨fun r v => ?_, fun r => ?_⟩
  · rw [decode_wrWord]
    cases r <;> rfl
  · rw [decode_rdWord]
    cases r <;> rfl

/-- Settles O6: selecting an offset and being its address are the same. -/
theorem busAddressSelectsOffset : Obligations.BusAddressSelectsOffset := by
  refine ⟨fun a => decodeAddress_eq_some.2 rfl, fun addr a => decodeAddress_eq_some.1, fun addr => ?_⟩
  simp only [Option.eq_none_iff_forall_ne_some, Ne, decodeAddress_eq_some]

end Sys2Proof.Proofs

/-! # All the accesses at once (spec/40_register_access.md R47, spec/60_exceptions.md R90): verdicts and frame -/

namespace Sys2Proof.Machine

open Sys2Proof.Safety

variable {s t : State} {i : Instr} {d : Byte}

/-! The DIVL write's commit changes DIVQ and PRESC alone (R55). -/

theorem State.commitDivisor_eq (s : State) (d : Byte) :
    s.commitDivisor d = { s with divq := (s.commitDivisor d).divq, presc := (s.commitDivisor d).presc } := by
  obtain ⟨-, e⟩ | ⟨h, -, e⟩ := commitDivisor_cases s d <;> rw [e]

@[simp] theorem State.commitDivisor_divh (s : State) (d : Byte) : (s.commitDivisor d).divh = s.divh := by
  rw [s.commitDivisor_eq]
@[simp] theorem State.commitDivisor_ctrl (s : State) (d : Byte) : (s.commitDivisor d).ctrl = s.ctrl := by
  rw [s.commitDivisor_eq]
@[simp] theorem State.commitDivisor_frame (s : State) (d : Byte) : (s.commitDivisor d).frame = s.frame := by
  rw [s.commitDivisor_eq]
@[simp] theorem State.commitDivisor_txb (s : State) (d : Byte) : (s.commitDivisor d).txb = s.txb := by
  rw [s.commitDivisor_eq]
@[simp] theorem State.commitDivisor_tsrQ (s : State) (d : Byte) : (s.commitDivisor d).tsrQ = s.tsrQ := by
  rw [s.commitDivisor_eq]
@[simp] theorem State.commitDivisor_tsrActive (s : State) (d : Byte) : (s.commitDivisor d).tsrActive = s.tsrActive := by
  rw [s.commitDivisor_eq]
@[simp] theorem State.commitDivisor_os (s : State) (d : Byte) : (s.commitDivisor d).os = s.os := by
  rw [s.commitDivisor_eq]
@[simp] theorem State.commitDivisor_rxdata (s : State) (d : Byte) : (s.commitDivisor d).rxdata = s.rxdata := by
  rw [s.commitDivisor_eq]
@[simp] theorem State.commitDivisor_program (s : State) (d : Byte) : (s.commitDivisor d).program = s.program := by
  rw [s.commitDivisor_eq]
@[simp] theorem State.commitDivisor_pc (s : State) (d : Byte) : (s.commitDivisor d).pc = s.pc := by
  rw [s.commitDivisor_eq]
@[simp] theorem State.commitDivisor_t (s : State) (d : Byte) : (s.commitDivisor d).t = s.t := by
  rw [s.commitDivisor_eq]
@[simp] theorem State.commitDivisor_wait (s : State) (d : Byte) : (s.commitDivisor d).wait = s.wait := by
  rw [s.commitDivisor_eq]
@[simp] theorem State.commitDivisor_halted (s : State) (d : Byte) : (s.commitDivisor d).halted = s.halted := by
  rw [s.commitDivisor_eq]
@[simp] theorem State.commitDivisor_turn (s : State) (d : Byte) : (s.commitDivisor d).turn = s.turn := by
  rw [s.commitDivisor_eq]
@[simp] theorem State.commitDivisor_draws (s : State) (d : Byte) : (s.commitDivisor d).draws = s.draws := by
  rw [s.commitDivisor_eq]
@[simp] theorem State.commitDivisor_txIdle (s : State) (d : Byte) : (s.commitDivisor d).txIdle = s.txIdle := by
  rw [s.commitDivisor_eq]; rfl

/-! WR_CTRL and WR_FRAME as one chain of checks each (R56, R57), beside `exec_wrData_of_unmarked`. -/

theorem exec_wrCtrl_of_unmarked (h : Unmarked s) (d : Byte) :
    exec (.wrCtrl d) s =
      if d &&& ctrlReserved ≠ 0#8 then .refused (.reservedBits 2 d)
      else if d.getLsbD 3 = false ∧ s.txen = true ∧ s.txIdle = false then .refused (.txDisableWhileBusy d)
      else .next (s.setCtrl (ctrlByte (d.getLsbD 4) (d.getLsbD 3))) :=
  unlessMarked_of_unmarked h _

theorem exec_wrFrame_of_unmarked (h : Unmarked s) (d : Byte) :
    exec (.wrFrame d) s =
      if d &&& frameReserved ≠ 0#8 then .refused (.reservedBits 3 d) else .next (s.garbleIfBusy.setFrame d) :=
  unlessMarked_of_unmarked h _

/-- The faults an access raises from an unmarked state: the table of R90. -/
theorem exec_fault_cases (h : Unmarked s) {f : Fault} (e : exec i s = .fault f) :
    (i = .rdDivh ∧ s.divh = none ∧ f = .unwrittenRead 0) ∨
    (i = .rdDivl ∧ s.divl = none ∧ f = .unwrittenRead 1) ∨
    (i = .rdFrame ∧ s.frame = none ∧ f = .unwrittenRead 3) ∨
    (∃ d, i = .wrData d ∧ s.txen = true ∧ (s.divq = none ∨ s.frame = none) ∧ f = .unconfiguredTransmit d) ∨
    (∃ d, i = .wrData d ∧ s.txen = true ∧ s.divq ≠ none ∧ s.frame ≠ none ∧ s.txbFull = true ∧ f = .txOverrun d) := by
  have unguarded {r : Result} (hr : unlessMarked s r = .fault f) : r = .fault f := by
    rwa [unlessMarked_of_unmarked h] at hr
  cases i with
  | rdDivh =>
    obtain ⟨hn, rfl⟩ := readCell_eq_fault.1 (unguarded e)
    exact .inl ⟨rfl, hn, rfl⟩
  | rdDivl =>
    obtain ⟨hn, rfl⟩ := readCell_eq_fault.1 (unguarded e)
    exact .inr (.inl ⟨rfl, hn, rfl⟩)
  | rdFrame =>
    obtain ⟨hn, rfl⟩ := readCell_eq_fault.1 (unguarded e)
    exact .inr (.inr (.inl ⟨rfl, hn, rfl⟩))
  | rdCtrl => cases unguarded e
  | rdStatus => cases unguarded e
  | rdData => cases unguarded e
  | wrDivh d => cases unguarded e
  | wrDivl d => cases unguarded e
  | wrCtrl d =>
    rw [exec_wrCtrl_of_unmarked h] at e
    split_ifs at e
  | wrFrame d =>
    rw [exec_wrFrame_of_unmarked h] at e
    split_ifs at e
  | wrStatus d => cases unguarded e
  | wrData d =>
    rw [exec_wrData_of_unmarked h] at e
    split_ifs at e with hoff hn hfull <;> cases e
    · exact .inr (.inr (.inr (.inl ⟨d, rfl, Bool.eq_true_of_not_eq_false hoff, hn, rfl⟩)))
    · obtain ⟨hq, hf⟩ := not_or.1 hn
      exact .inr (.inr (.inr (.inr ⟨d, rfl, Bool.eq_true_of_not_eq_false hoff, hq, hf, hfull, rfl⟩)))
  | reserved w a d => cases unguarded e
  | invalid a d => cases unguarded e

/-- The refusals an access raises from an unmarked state: the table of R90. -/
theorem exec_refused_cases (h : Unmarked s) {x : Refusal} (e : exec i s = .refused x) :
    (∃ w a d, i = .reserved w a d ∧ x = .reservedOffset (encode i)) ∨
    (∃ a d, i = .invalid a d ∧ x = .invalidEncoding (encode i)) ∨
    (∃ d, i = .wrStatus d ∧ x = .statusWrite d) ∨
    (∃ d, i = .wrCtrl d ∧ d &&& ctrlReserved ≠ 0#8 ∧ x = .reservedBits 2 d) ∨
    (∃ d, i = .wrFrame d ∧ d &&& frameReserved ≠ 0#8 ∧ x = .reservedBits 3 d) ∨
    (∃ d, i = .wrCtrl d ∧ d.getLsbD 3 = false ∧ s.txen = true ∧ s.txIdle = false ∧ x = .txDisableWhileBusy d) ∨
    (∃ d, i = .wrData d ∧ s.txen = false ∧ x = .dataWriteTxDisabled d) := by
  have unguarded {r : Result} (hr : unlessMarked s r = .refused x) : r = .refused x := by
    rwa [unlessMarked_of_unmarked h] at hr
  cases i with
  | rdDivh => exact absurd (unguarded e) readCell_ne_refused
  | rdDivl => exact absurd (unguarded e) readCell_ne_refused
  | rdFrame => exact absurd (unguarded e) readCell_ne_refused
  | rdCtrl => cases unguarded e
  | rdStatus => cases unguarded e
  | rdData => cases unguarded e
  | wrDivh d => cases unguarded e
  | wrDivl d => cases unguarded e
  | wrCtrl d =>
    rw [exec_wrCtrl_of_unmarked h] at e
    split_ifs at e with hd hbusy <;> cases e
    · exact .inr (.inr (.inr (.inl ⟨d, rfl, hd, rfl⟩)))
    · obtain ⟨hoff, hon, hbusy⟩ := hbusy
      exact .inr (.inr (.inr (.inr (.inr (.inl ⟨d, rfl, hoff, hon, hbusy, rfl⟩)))))
  | wrFrame d =>
    rw [exec_wrFrame_of_unmarked h] at e
    split_ifs at e with hd
    cases e
    exact .inr (.inr (.inr (.inr (.inl ⟨d, rfl, hd, rfl⟩))))
  | wrStatus d =>
    cases unguarded e
    exact .inr (.inr (.inl ⟨d, rfl, rfl⟩))
  | wrData d =>
    rw [exec_wrData_of_unmarked h] at e
    split_ifs at e with hoff
    cases e
    exact .inr (.inr (.inr (.inr (.inr (.inr ⟨d, rfl, hoff, rfl⟩)))))
  | reserved w a d =>
    cases unguarded e
    exact .inl ⟨w, a, d, rfl, rfl⟩
  | invalid a d =>
    cases unguarded e
    exact .inr (.inl ⟨a, d, rfl, rfl⟩)

/-- What no access changes (R25, R29, R30). -/
theorem exec_frame (h : exec i s = .next t) :
    t.os = s.os ∧ t.tsrQ = s.tsrQ ∧ t.tsrActive = s.tsrActive ∧ t.txd = s.txd ∧ t.rxc = s.rxc ∧
      t.rxdata = s.rxdata ∧ t.faulted = s.faulted ∧ t.refused = s.refused ∧ t.program = s.program ∧ t.pc = s.pc ∧
      t.wait = s.wait ∧ t.halted = s.halted ∧ t.turn = s.turn ∧ t.draws = s.draws := by
  obtain ⟨-, ⟨v, rfl, -⟩ | ⟨d, -, rfl⟩ | ⟨d, -, rfl⟩ | ⟨d, -, -, -, rfl⟩ | ⟨d, -, -, rfl⟩ |
    ⟨d, -, -, -, -, -, rfl⟩⟩ := exec_cases h <;> simp

/-- A fault of an access is recorded, and nothing else changes (R23, R47). -/
theorem advanceAccess_of_fault {f : Fault} (h : Unmarked s) (e : exec i s = .fault f) :
    advanceAccess i s = { s with faulted := some f } := by
  simp [advanceAccess, e, recordVerdict, marked_eq_false_iff.2 h]

/-! The garble mark and the cells a write stores are set independently (R21, R54, R55, R57). -/

@[simp] theorem State.garbleIfBusy_garbleIfBusy (s : State) : s.garbleIfBusy.garbleIfBusy = s.garbleIfBusy := by
  have hor : ((s.garble || !s.txIdle) || !s.txIdle) = (s.garble || !s.txIdle) := by rw [Bool.or_assoc, Bool.or_self]
  exact congrArg (fun g => { s with garble := g }) hor

theorem divisorHigh_append_divisorLow (d : Divisor) : divisorHigh d ++ divisorLow d = d := by
  apply BitVec.eq_of_getLsbD_eq
  intro k hk
  simp only [divisorHigh, divisorLow, BitVec.getLsbD_append, BitVec.getLsbD_extractLsb']
  interval_cases k <;> simp

end Sys2Proof.Machine

/-! ## The obligations over every access, and those of `init` and of reset that are accesses -/

namespace Sys2Proof.Proofs

open Sys2Proof.Machine Sys2Proof.Safety

/-- Settles O21: each access's own rule says when it completes. -/
theorem accessCompletesExactlyWhere : Obligations.AccessCompletesExactlyWhere := by
  intro i s
  cases i with
  | rdDivh => simp [exec, execRdDivh_eq_next, Option.ne_none_iff_exists']
  | rdDivl => simp [exec, execRdDivl_eq_next, Option.ne_none_iff_exists']
  | rdCtrl => simp [exec, execRdCtrl_eq_next]
  | rdFrame => simp [exec, execRdFrame_eq_next, Option.ne_none_iff_exists']
  | rdStatus => simp [exec, execRdStatus_eq_next]
  | rdData => simp [exec, execRdData_eq_next]
  | wrDivh d => simp [exec, execWrDivh_eq_next]
  | wrDivl d => simp [exec, execWrDivl_eq_next]
  | wrCtrl d =>
    have hok : ¬(d.getLsbD 3 = false ∧ s.txen = true ∧ s.txIdle = false) ↔
        d.getLsbD 3 = true ∨ s.txen = false ∨ s.txIdle = true := by
      simp only [not_and_or, Bool.not_eq_false, Bool.not_eq_true]
    simp only [exec, execWrCtrl_eq_next, hok, exists_and_left, exists_eq, and_true]
    rfl
  | wrFrame d =>
    simp only [exec, execWrFrame_eq_next, exists_and_left, exists_eq, and_true]
    rfl
  | wrStatus d => simp [exec, execWrStatus_ne_next]
  | wrData d =>
    simp only [exec, execWrData_eq_next, exists_and_left, exists_eq, and_true]
    rfl
  | reserved w a d => simp [exec, execReserved_ne_next]
  | invalid a d => simp [exec, execInvalid_ne_next]

/-- Settles O22: R90's table of faults and of refusals, each read at one reason; the three reads also fault where the
table says. -/
theorem verdictsOnlyAsTabled : Obligations.VerdictsOnlyAsTabled := by
  intro i s hs
  refine ⟨fun off => ⟨fun e => by simpa using exec_fault_cases hs e, ?_⟩, fun d e => ?_, fun d e => ?_, fun w e => ?_,
    fun w e => ?_, fun d e => ?_, fun off d e => ?_, fun d e => ?_, fun d e => ?_, fun n e => ?_, fun m e => ?_⟩
  · rintro (⟨rfl, hn, rfl⟩ | ⟨rfl, hn, rfl⟩ | ⟨rfl, hn, rfl⟩)
    · exact exec_rdDivh_of_none hs hn
    · exact exec_rdDivl_of_none hs hn
    · exact exec_rdFrame_of_none hs hn
  · obtain ⟨hi, hon, hq, hf, hfull⟩ :
        i = .wrData d ∧ s.txen = true ∧ s.divq ≠ none ∧ s.frame ≠ none ∧ s.txbFull = true := by
      simpa using exec_fault_cases hs e
    exact ⟨hi, hfull, hon, hq, hf⟩
  · exact show i = .wrData d ∧ s.txen = true ∧ (s.divq = none ∨ s.frame = none) by
      simpa using exec_fault_cases hs e
  · obtain ⟨b, a, d, hi, -⟩ : ∃ b a d, i = .reserved b a d ∧ w = encode i := by simpa using exec_refused_cases hs e
    exact ⟨b, a, d, hi⟩
  · obtain ⟨a, d, hi, -⟩ : ∃ a d, i = .invalid a d ∧ w = encode i := by simpa using exec_refused_cases hs e
    exact ⟨a, d, hi⟩
  · simpa using exec_refused_cases hs e
  · obtain ⟨hi, hd, hoff⟩ | ⟨hi, hd, hoff⟩ : (i = .wrCtrl d ∧ d &&& ctrlReserved ≠ 0#8 ∧ off = 2) ∨
        (i = .wrFrame d ∧ d &&& frameReserved ≠ 0#8 ∧ off = 3) := by simpa using exec_refused_cases hs e
    · exact .inl ⟨hi, hoff, hd⟩
    · exact .inr ⟨hi, hoff, hd⟩
  · exact show i = .wrCtrl d ∧ d.getLsbD 3 = false ∧ s.txen = true ∧ s.txIdle = false by
      simpa using exec_refused_cases hs e
  · exact show i = .wrData d ∧ s.txen = false by simpa using exec_refused_cases hs e
  · simpa using exec_refused_cases hs e
  · simpa using exec_refused_cases hs e

/-- Settles O23: a verdict is recorded, and nothing else is written. -/
theorem raisingAccessChangesOnlyMark : Obligations.RaisingAccessChangesOnlyMark :=
  fun _ _ hs => ⟨fun _ e => advanceAccess_of_fault hs e, fun _ e => advanceAccess_of_refused hs e⟩

/-- Settles O25, by the six kinds of access that complete: each is an update that names its own fields. -/
theorem accessFrame : Obligations.AccessFrame := by
  refine fun i s t h => ⟨exec_frame h, ?_⟩
  obtain ⟨-, ⟨v, rfl, hread⟩ | ⟨d, rfl, rfl⟩ | ⟨d, rfl, rfl⟩ | ⟨d, rfl, -, -, rfl⟩ | ⟨d, rfl, -, rfl⟩ |
    ⟨d, rfl, -, -, -, -, rfl⟩⟩ := exec_cases h
  case inl => simp [hread]
  all_goals simp +contextual

/-- Settles O26: each of the three writes sets the mark by `garbleIfBusy` and leaves the transmitter alone. -/
theorem reconfiguringWhileBusyGarbles : Obligations.ReconfiguringWhileBusyGarbles := by
  intro s t d i hbusy hi h
  obtain rfl | rfl | rfl := hi
  · obtain ⟨-, rfl⟩ := execWrDivh_eq_next.1 h
    simp [hbusy]
  · obtain ⟨-, rfl⟩ := execWrDivl_eq_next.1 h
    simp [hbusy]
  · obtain ⟨-, -, rfl⟩ := execWrFrame_eq_next.1 h
    simp [hbusy]

/-- Settles O54: the four writes in a row; the DIVH byte is there for the DIVL write to commit, and CTRL = 0x18 has
TXEN = 1, so it is never refused. -/
theorem initSetsEveryRegister : Obligations.InitSetsEveryRegister := by
  intro s d hs
  have h1 := exec_wrDivh_of_unmarked hs (divisorHigh d)
  have h2 := exec_wrDivl_of_unmarked (unmarked_of_exec_eq_next h1) (divisorLow d)
  have h3 := exec_wrCtrl_stores (d := 0x18) (unmarked_of_exec_eq_next h2) rfl (fun h => absurd h.1 (by decide))
  have h4 := exec_wrFrame_stores (d := 0x0E) (unmarked_of_exec_eq_next h3) rfl
  refine ⟨_, _, _, h1, h2, h3, h4.trans (congrArg _ ?_)⟩
  rw [commitDivisor_of_some _ (show (s.garbleIfBusy.setDivh _).garbleIfBusy.divh = some (divisorHigh d) from rfl),
    divisorHigh_append_divisorLow]
  calc _ = { s.garbleIfBusy.garbleIfBusy.garbleIfBusy with
             divh := some (divisorHigh d), divl := some (divisorLow d), divq := some d,
             presc := some (effectiveDivisor d), ctrl := 0x18, frame := some 0x0E } := rfl
    _ = _ := by rw [State.garbleIfBusy_garbleIfBusy, State.garbleIfBusy_garbleIfBusy, State.garbleIfBusy_eq]

end Sys2Proof.Proofs

/-! # The three agents' steps (spec/00_scope.md R3): what each leaves alone, and HOST's bus words -/

namespace Sys2Proof.Machine

open Sys2Proof.Safety

variable {s t : State}

/-- HOST's turn leaves the marks, HOST's program and ENV's inputs alone (R22, R23). -/
theorem hostStep_frame (h : hostStep s = .next t) :
    t.faulted = s.faulted ∧ t.refused = s.refused ∧ t.program = s.program ∧ t.rxc = s.rxc ∧ t.rxdata = s.rxdata := by
  obtain ⟨i, u, e, htu⟩ | rfl | rfl | ⟨n, rfl⟩ | ⟨n, rfl⟩ := hostStep_cases h
  case inl =>
    obtain ⟨-, -, -, -, hrxc, hrxdata, hfaulted, hrefused, hprogram, -⟩ := exec_frame e
    obtain rfl | rfl := htu <;> exact ⟨hfaulted, hrefused, hprogram, hrxc, hrxdata⟩
  all_goals exact ⟨rfl, rfl, rfl, rfl, rfl⟩

/-- A completing step leaves the marks and HOST's program alone, whoever takes it (R23, R47). -/
theorem step_frame (h : step s = .next t) :
    t.faulted = s.faulted ∧ t.refused = s.refused ∧ t.program = s.program := by
  obtain ⟨-, ⟨-, u, hu, rfl⟩ | ⟨-, rfl⟩ | ⟨-, rfl⟩⟩ := step_cases h
  · obtain ⟨hfaulted, hrefused, hprogram, -⟩ := hostStep_frame hu
    exact ⟨hfaulted, hrefused, hprogram⟩
  · simp
  · simp

theorem unmarked_of_step_eq_next (h : step s = .next t) : Unmarked t := by
  obtain ⟨hfaulted, hrefused⟩ := (step_cases h).1
  obtain ⟨hf, hr, -⟩ := step_frame h
  exact ⟨hf.trans hfaulted, hr.trans hrefused⟩

/-- Only ENV's turn changes ENV's inputs (R22). -/
theorem step_inputs_of_turn_ne_env (h : step s = .next t) (hturn : s.turn ≠ .env) :
    t.rxc = s.rxc ∧ t.rxdata = s.rxdata := by
  obtain ⟨-, ⟨-, u, hu, rfl⟩ | ⟨-, rfl⟩ | ⟨henv, -⟩⟩ := step_cases h
  · obtain ⟨-, -, -, hrxc, hrxdata⟩ := hostStep_frame hu
    exact ⟨hrxc, hrxdata⟩
  · simp
  · exact absurd henv hturn

/-- CLOCK's and ENV's turns keep an empty buffer empty and the configuration in place (R25, R87). -/
theorem step_keeps_accepting (h : step s = .next t) (hturn : s.turn ≠ .host) (hempty : s.txbFull = false) :
    t.txbFull = false ∧ t.txen = s.txen ∧ t.divq = s.divq ∧ t.frame = s.frame := by
  obtain ⟨-, ⟨hhost, -⟩ | ⟨-, rfl⟩ | ⟨-, rfl⟩⟩ := step_cases h
  · exact absurd hhost hturn
  · simp [clockCycle_txbFull_of_empty hempty]
  · simp [hempty]

/-- A raw bus word is its access; HOST then moves past the statement and the next turn is drawn (R47; logs 1, 14). -/
theorem step_of_bus {w : BusWord} (h : Unmarked s) (hturn : s.turn = .host) (hr : s.hostReady = true)
    (hp : s.program[s.pc]? = some (.bus w)) :
    step s = onNext (onNext (exec (decode w) s) State.nextPc) State.passTurn :=
  step_of_stmt h hturn hr hp

end Sys2Proof.Machine

/-! ## The obligations over every step -/

namespace Sys2Proof.Proofs

open Sys2Proof.Machine Sys2Proof.Safety

/-- Settles O35, by the three agents' turns. -/
theorem onlyEnvDrivesInputs : Obligations.OnlyEnvDrivesInputs := by
  refine fun s t h => ⟨fun hne => ?_, fun henv => ?_⟩
  · by_contra hturn
    obtain ⟨hrxc, hrxdata⟩ := step_inputs_of_turn_ne_env h hturn
    exact hne.elim (fun h => h hrxc) fun h => h hrxdata
  · rw [step_of_env_turn (step_cases h).1 henv] at h
    cases h
    rfl

/-- Settles O55: what the DATA write checks is as the poll found it. -/
theorem polledWriteNeverOverruns : Obligations.PolledWriteNeverOverruns := by
  intro s t d _ hturn h hempty hon hq hf
  obtain ⟨hempty', hon', hq', hf'⟩ := step_keeps_accepting h hturn hempty
  exact ⟨hempty', exec_wrData_fills (unmarked_of_step_eq_next h) (hon'.trans hon) (hq' ▸ hq) (hf' ▸ hf) hempty'⟩

/-- Settles O60: a step completes only from an unmarked state, and leaves the marks and the program alone. -/
theorem stepLeavesNoMark : Obligations.StepLeavesNoMark := by
  intro s t (h : step s = .next t)
  obtain ⟨-, -, hprogram⟩ := step_frame h
  exact ⟨(step_cases h).1, unmarked_of_step_eq_next h, hprogram⟩

/-- Settles O27: an access leaves pc alone, so HOST's own move takes it from `s.pc`. -/
theorem stepRunsDecodedWord : Obligations.StepRunsDecodedWord := by
  intro s w hs hturn hh hw hp
  rw [step_of_bus hs hturn (hostReady_of_running hh hw) hp]
  cases e : exec (decode w) s with
  | next t =>
    obtain ⟨-, -, -, -, -, -, -, -, -, hpc, -⟩ := exec_frame e
    rw [← hpc]
    rfl
  | fault f => rfl
  | refused x => rfl

/-- Settles O28: the placed word is the statement HOST stands at. -/
theorem placedWordRunsNext : Obligations.PlacedWordRunsNext := by
  intro s nbits w i hs hi
  obtain ⟨word, hword, rfl⟩ := Option.map_eq_some_iff.1 hi
  have hp : (s.withFetchWord nbits w).program[(s.withFetchWord nbits w).pc]? = some (.bus word) := by
    simp [State.withFetchWord, hword]
  exact stepRunsDecodedWord (s.withFetchWord nbits w) word hs rfl rfl rfl hp

end Sys2Proof.Proofs

/-! # Reset (spec/10_state.md R8, spec/70_reset_and_hazards.md R100, R101) and the machine's invariant -/

namespace Sys2Proof.Machine

open Sys2Proof.Safety

variable {s t : State}

theorem reset_unmarked : Unmarked State.reset := ⟨rfl, rfl⟩

/-- STATUS at reset: UDRE reads 1 and bit 7 is ENV's input (R100). -/
theorem reset_statusByte :
    State.reset.statusByte &&& 0x7F = 0x20 ∧ State.reset.statusByte.getLsbD 7 = State.reset.rxc := by
  refine ⟨?_, State.getLsbD_statusByte_seven _⟩
  rw [State.statusByte_eq]
  cases State.reset.rxc <;> rfl

theorem reset_inv : MachineInv State.reset where
  ctrlReserved := rfl
  frameReserved _ h := by cases (show none = some _ from h)
  prescWithDivq := rfl
  prescBound _ _ h _ := by cases (show none = some _ from h)
  divqAfterHalves h := by cases (show false = true from h)
  fullHoldsByte h := by cases (show false = true from h)
  busyConfigured h := by cases (show true = false from h)
  shiftLength := by decide
  disabledIdle _ := rfl
  quietLineMark _ := rfl
  garbleWhileBusy h := by cases (show false = true from h)

/-- The DIVL write's two updates commute (R55). -/
theorem State.commitDivisor_setDivl (s : State) (d c : Byte) :
    (s.commitDivisor d).setDivl c = (s.setDivl c).commitDivisor d := by
  unfold State.commitDivisor
  cases h : s.divh <;> simp [h, State.setDivl]

end Sys2Proof.Machine

namespace Sys2Proof.Safety

open Sys2Proof.Machine

variable {s t : State}

/-! Each named update keeps the invariant where its own rule allows it. -/

theorem MachineInv.setT (h : MachineInv s) (v : Byte) : MachineInv (s.setT v) := { h with }

theorem MachineInv.nextPc (h : MachineInv s) : MachineInv s.nextPc := { h with }

theorem MachineInv.setPc (h : MachineInv s) (n : Nat) : MachineInv (s.setPc n) := { h with }

theorem MachineInv.setWait (h : MachineInv s) (n : Nat) : MachineInv (s.setWait n) := { h with }

theorem MachineInv.halt (h : MachineInv s) : MachineInv s.halt := { h with }

theorem MachineInv.passTurn (h : MachineInv s) : MachineInv s.passTurn := { h with }

theorem MachineInv.envChange (h : MachineInv s) : MachineInv (envChange s) := { h with }

theorem MachineInv.garbleIfBusy (h : MachineInv s) : MachineInv s.garbleIfBusy :=
  { h with
    garbleWhileBusy := fun hg => by
      cases hidle : s.txIdle with
      | false => exact hidle
      | true => exact absurd (h.garbleWhileBusy (by simpa [hidle] using hg)) (by simp [hidle]) }

theorem MachineInv.setDivh (h : MachineInv s) (d : Byte) : MachineInv (s.setDivh d) :=
  { h with divqAfterHalves := fun hq => ⟨rfl, (h.divqAfterHalves hq).2⟩ }

theorem MachineInv.setDivl (h : MachineInv s) (d : Byte) : MachineInv (s.setDivl d) :=
  { h with divqAfterHalves := fun hq => ⟨(h.divqAfterHalves hq).1, rfl⟩ }

/-- A commit after both halves are there: DIVQ takes a value, and PRESC its E (R12, R55). -/
theorem MachineInv.commitDivisor (h : MachineInv s) (hl : s.divl.isSome = true) (d : Byte) :
    MachineInv (s.commitDivisor d) := by
  obtain ⟨-, e⟩ | ⟨v, hv, e⟩ := commitDivisor_cases s d
  · rwa [e]
  · rw [e]
    exact
      { h with
        prescWithDivq := rfl
        prescBound := fun q p hq hp => by cases hq; cases hp; exact le_rfl
        divqAfterHalves := fun _ => ⟨by simp [hv], hl⟩
        busyConfigured := fun hbusy => ⟨(h.busyConfigured hbusy).1, rfl⟩ }

theorem MachineInv.setCtrl (h : MachineInv s) {c : Byte} (hc : c &&& Machine.ctrlReserved = 0#8)
    (hok : ¬(c.getLsbD 3 = false ∧ s.txen = true ∧ s.txIdle = false)) : MachineInv (s.setCtrl c) :=
  { h with
    ctrlReserved := hc
    disabledIdle := fun hoff => by
      cases hon : s.txen with
      | false => exact h.disabledIdle hon
      | true =>
        by_contra hbusy
        exact hok ⟨hoff, hon, Bool.eq_false_of_not_eq_true hbusy⟩ }

theorem MachineInv.setFrame (h : MachineInv s) {d : Byte} (hd : d &&& Machine.frameReserved = 0#8) :
    MachineInv (s.setFrame d) :=
  { h with
    frameReserved := fun f hf => by cases hf; exact hd
    busyConfigured := fun hbusy => ⟨rfl, (h.busyConfigured hbusy).2⟩ }

theorem MachineInv.fillTxb (h : MachineInv s) (hon : s.txen = true) (hq : s.divq ≠ none) (hf : s.frame ≠ none)
    (d : Byte) : MachineInv (s.fillTxb d) :=
  { h with
    fullHoldsByte := fun _ => rfl
    busyConfigured := fun _ => ⟨Option.isSome_iff_ne_none.2 hf, Option.isSome_iff_ne_none.2 hq⟩
    disabledIdle := fun hoff => absurd (hon.symm.trans hoff) (by decide)
    garbleWhileBusy := fun _ => txIdle_of_full rfl }

end Sys2Proof.Safety

namespace Sys2Proof.Machine

open Sys2Proof.Safety

variable {s t : State}

theorem exec_keeps_inv {i : Instr} (hs : MachineInv s) (h : exec i s = .next t) : MachineInv t := by
  obtain ⟨-, ⟨v, rfl, -⟩ | ⟨d, -, rfl⟩ | ⟨d, -, rfl⟩ | ⟨d, -, hd, hok, rfl⟩ | ⟨d, -, hd, rfl⟩ |
    ⟨d, -, hon, hq, hf, -, rfl⟩⟩ := exec_cases h
  · exact hs.setT v
  · exact hs.garbleIfBusy.setDivh d
  · rw [State.commitDivisor_setDivl]
    exact (hs.garbleIfBusy.setDivl d).commitDivisor rfl d
  · rw [ctrlByte_fields hd]
    exact hs.setCtrl hd hok
  · exact hs.garbleIfBusy.setFrame hd
  · exact hs.fillTxb hon hq hf d

theorem hostStep_keeps_inv (hs : MachineInv s) (h : hostStep s = .next t) : MachineInv t := by
  obtain ⟨i, u, e, rfl | rfl⟩ | rfl | rfl | ⟨n, rfl⟩ | ⟨n, rfl⟩ := hostStep_cases h
  · exact exec_keeps_inv hs e
  · exact (exec_keeps_inv hs e).nextPc
  · exact hs
  · exact hs.halt
  · exact hs.nextPc.setWait n
  · exact hs.setPc n

/-! A cycle keeps the invariant: PRESC by phase 1, TSR_Q and the line by phases 3 and 4, GARBLE by phase 5. -/

theorem toNat_pred {p : EffDivisor} (h : p ≠ 0#12) : (p - 1#12).toNat + 1 = p.toNat := by
  bv_omega

theorem prescalerPhase_presc_isSome (h : s.presc.isSome = s.divq.isSome) :
    (prescalerPhase s).1.presc.isSome = s.divq.isSome := by
  obtain ⟨-, e⟩ | ⟨-, e⟩ | ⟨p, hp, -, e⟩ := prescalerPhase_cases s <;> rw [e]
  · exact h
  · exact Option.isSome_map
  · rw [← h, hp]
    rfl

theorem prescalerPhase_presc_le {q : Divisor} {p : EffDivisor} (hs : MachineInv s) (hq : s.divq = some q)
    (hp : (prescalerPhase s).1.presc = some p) : p.toNat ≤ (effectiveDivisor q).toNat := by
  obtain ⟨-, e⟩ | ⟨-, e⟩ | ⟨p', hp', hne, e⟩ := prescalerPhase_cases s <;> rw [e] at hp
  · exact hs.prescBound q p hq hp
  · rw [hq] at hp
    cases hp
    exact le_rfl
  · cases hp
    have hle := hs.prescBound q p' hq hp'
    have hpred := toNat_pred hne
    omega

theorem shiftPhase_tsrQ_length_le (b : Bool) (s : State) : (shiftPhase b s).tsrQ.length ≤ s.tsrQ.length := by
  obtain ⟨-, e⟩ | ⟨-, -, e⟩ | ⟨-, x, rest, hq, e⟩ := shiftPhase_cases b s <;> rw [e]
  rw [hq]
  exact Nat.le_succ _

theorem frameBits_length_le (b f : Byte) : (frameBits b f).length ≤ 11 := by
  have hdata := dataBits_le f
  have hstop := stopBits_le f
  rw [frameBits_length]
  omega

theorem loadPhase_tsrQ_length_le (h : s.tsrQ.length ≤ 11) : (loadPhase s).tsrQ.length ≤ 11 := by
  obtain e | ⟨-, -, -, b, f, -, -, e⟩ := loadPhase_cases s <;> rw [e]
  · exact h
  · exact frameBits_length_le b f

theorem clockCycle_tsrQ_length_le (h : s.tsrQ.length ≤ 11) : (clockCycle s).tsrQ.length ≤ 11 := by
  have hload := loadPhase_tsrQ_length_le ((shiftPhase_tsrQ_length_le (oversamplePhase (prescalerPhase s).2
    (prescalerPhase s).1).2 (oversamplePhase (prescalerPhase s).2 (prescalerPhase s).1).1).trans (by simpa using h))
  simpa [clockCycle] using hload

theorem shiftPhase_quiet {b : Bool} (h : s.tsrActive = false → s.txd = true)
    (hquiet : (shiftPhase b s).tsrActive = false) : (shiftPhase b s).txd = true := by
  obtain ⟨-, e⟩ | ⟨-, -, e⟩ | ⟨-, x, rest, -, e⟩ := shiftPhase_cases b s <;> rw [e] at hquiet ⊢
  · exact h hquiet
  · cases hquiet

theorem clockCycle_quiet (h : s.tsrActive = false → s.txd = true) (hquiet : (clockCycle s).tsrActive = false) :
    (clockCycle s).txd = true := by
  simp only [clockCycle, State.countWait_tsrActive, State.countWait_txd, garblePhase_tsrActive, garblePhase_txd,
    loadPhase_tsrActive, loadPhase_txd] at hquiet ⊢
  exact shiftPhase_quiet (by simpa using h) hquiet

theorem garblePhase_garble_busy (h : (garblePhase s).garble = true) : s.txIdle = false := by
  obtain ⟨hbusy, -⟩ | ⟨-, e⟩ := garblePhase_cases s
  · exact hbusy
  · rw [e] at h
    cases h

theorem clockCycle_garble_busy (h : (clockCycle s).garble = true) : (clockCycle s).txIdle = false := by
  simp only [clockCycle, State.countWait_garble, State.countWait_txIdle, garblePhase_txIdle] at h ⊢
  exact garblePhase_garble_busy h

/-- A transmitter that is busy after a cycle was busy before it. -/
theorem busy_of_clockCycle_busy (h : (clockCycle s).txIdle = false) : s.txIdle = false :=
  Bool.eq_false_of_not_eq_true fun hidle => by simp [clockCycle_txIdle_of_idle hidle] at h

theorem full_of_clockCycle_full (h : (clockCycle s).txbFull = true) : s.txbFull = true :=
  Bool.eq_true_of_not_eq_false fun hempty => by simp [clockCycle_txbFull_of_empty hempty] at h

theorem clockCycle_keeps_inv (hs : MachineInv s) : MachineInv (clockCycle s) where
  ctrlReserved := by simpa using hs.ctrlReserved
  frameReserved := by simpa using hs.frameReserved
  prescWithDivq := by simpa using prescalerPhase_presc_isSome hs.prescWithDivq
  prescBound q p hq hp := prescalerPhase_presc_le hs (by simpa using hq) (by simpa using hp)
  divqAfterHalves := by simpa using hs.divqAfterHalves
  fullHoldsByte hfull := by simpa using hs.fullHoldsByte (full_of_clockCycle_full hfull)
  busyConfigured hbusy := by simpa using hs.busyConfigured (busy_of_clockCycle_busy hbusy)
  shiftLength := clockCycle_tsrQ_length_le hs.shiftLength
  disabledIdle hoff := clockCycle_txIdle_of_idle (hs.disabledIdle (by simpa using hoff))
  quietLineMark := clockCycle_quiet hs.quietLineMark
  garbleWhileBusy := clockCycle_garble_busy

end Sys2Proof.Machine

/-! ## The obligations of 70_reset_and_hazards.md -/

namespace Sys2Proof.Proofs

open Sys2Proof.Machine Sys2Proof.Safety

/-- Settles O59, by the three agents' turns. -/
theorem stepKeepsInvariant : Obligations.StepKeepsInvariant := by
  intro s t hs h
  obtain ⟨-, ⟨-, u, hu, rfl⟩ | ⟨-, rfl⟩ | ⟨-, rfl⟩⟩ := step_cases h
  · exact (hostStep_keeps_inv hs hu).passTurn
  · exact (clockCycle_keeps_inv hs).passTurn
  · exact hs.envChange.passTurn

/-- Settles O58, clause by clause: every cell is ⊥, the transmitter is idle, the line is at mark. -/
theorem invariantAtReset : Obligations.InvariantAtReset := reset_inv

/-- Settles O56: all but STATUS is the reset state as it is written. -/
theorem resetLeavesTabledValues : Obligations.ResetLeavesTabledValues :=
  ⟨rfl, rfl, rfl, rfl, rfl, rfl, rfl, rfl, rfl, rfl, rfl, rfl, rfl, rfl, rfl, rfl, rfl, rfl, rfl, reset_statusByte⟩

/-- Settles O57, by each access's rule at reset: the three cells are ⊥, TXEN is 0, the transmitter is idle. -/
theorem accessesRightAfterReset : Obligations.AccessesRightAfterReset :=
  ⟨exec_rdDivh_of_none reset_unmarked rfl, exec_rdDivl_of_none reset_unmarked rfl,
    exec_rdFrame_of_none reset_unmarked rfl, ⟨_, exec_rdCtrl_of_unmarked reset_unmarked, rfl⟩,
    ⟨_, _, exec_rdStatus_of_unmarked reset_unmarked, rfl, reset_statusByte⟩,
    ⟨_, exec_rdData_of_unmarked reset_unmarked, rfl⟩, fun _ => exec_wrData_of_disabled reset_unmarked rfl,
    fun d => ⟨_, exec_wrDivh_of_unmarked reset_unmarked d⟩, fun d => ⟨_, exec_wrDivl_of_unmarked reset_unmarked d⟩,
    fun _ hd => ⟨_, exec_wrCtrl_stores reset_unmarked hd fun h => absurd h.2.1 Bool.false_ne_true⟩,
    fun _ hd => ⟨_, exec_wrFrame_stores reset_unmarked hd⟩⟩

end Sys2Proof.Proofs

/-! # The divider (spec/41_baud_divider.md R62-R69) and what the cycle does not read -/

namespace Sys2Proof.Machine

open Sys2Proof.Safety

variable {s t : State} {q : Divisor} {p : EffDivisor}

/-! The formula result as it is stored, where the quotient `k` of R62 is in 16 bits, 0, or in range (R62, R63; D25). -/

theorem storedDivisor_pred_toNat {k : Nat} (hpos : 0 < k) (hle : k ≤ 0x10000) :
    (storedDivisor ((k : Int) - 1)).toNat + 1 = k := by
  rw [storedDivisor_of_le (by omega), BitVec.toNat_ofInt]
  omega

theorem storedDivisor_neg_one : storedDivisor (((0 : Nat) : Int) - 1) = 0xFFFF := by
  rw [storedDivisor_of_le (by decide)]
  rfl

theorem storedDivisor_out_of_range {k : Nat} (h : k = 0 ∨ 0x1000 < k) :
    0x0FFF < (storedDivisor ((k : Int) - 1)).toNat := by
  obtain rfl | h := h
  · rw [storedDivisor_neg_one]
    decide
  · by_cases hle : k ≤ 0x10000
    · have hk := storedDivisor_pred_toNat (by omega) hle
      omega
    · exact storedDivisor_of_gt (by omega)

theorem quotient_pos_iff {f b : Nat} (hb : 0 < b) : 0 < f / (16 * b) ↔ 16 * b ≤ f :=
  Nat.div_pos_iff.trans (and_iff_right (by omega))

theorem divisorInRange_eq_true {f b : Nat} (hb : 0 < b) :
    divisorInRange f b = true ↔ 0 < f / (16 * b) ∧ f / (16 * b) ≤ 0x1000 := by
  have hle : formulaResult f b ≤ 4095 ↔ f / (16 * b) ≤ 0x1000 := by
    rw [formulaResult]
    omega
  rw [divisorInRange, Bool.and_eq_true, decide_eq_true_iff, decide_eq_true_iff, quotient_pos_iff hb, hle]

/-! One cycle of the divider (R66-R68): without a divisor, between two p-ticks, at a p-tick. -/

theorem prescalerPhase_of_none (h : s.presc = none) : prescalerPhase s = (s, false) := by
  simp [prescalerPhase, h]

theorem prescalerPhase_of_ne_zero (h : s.presc = some p) (hp : p ≠ 0#12) :
    prescalerPhase s = ({ s with presc := some (p - 1#12) }, false) := by
  simp [prescalerPhase, h, hp]

theorem clockCycle_divider_of_zero (hq : s.divq = some q) (h : s.presc = some 0#12) :
    (clockCycle s).presc = some (effectiveDivisor q) ∧ (clockCycle s).os = s.os + 1#4 := by
  rw [clockCycle_presc, clockCycle_os, prescalerPhase_of_zero h, hq]
  exact ⟨rfl, rfl⟩

theorem clockCycle_divider_of_ne_zero (h : s.presc = some p) (hp : p ≠ 0#12) :
    (clockCycle s).presc = some (p - 1#12) ∧ (clockCycle s).os = s.os := by
  rw [clockCycle_presc, clockCycle_os, prescalerPhase_of_ne_zero h hp]
  exact ⟨rfl, rfl⟩

theorem clockCycle_divider_of_none (h : s.presc = none) :
    (clockCycle s).presc = none ∧ (clockCycle s).os = s.os ∧ (clockCycle s).txd = s.txd := by
  have hphase := prescalerPhase_of_none h
  refine ⟨by rw [clockCycle_presc, hphase, h], by rw [clockCycle_os, hphase]; rfl, clockCycle_txd_of_no_bitTick ?_⟩
  rw [hphase]
  rfl

theorem clockCycles_divider_of_none (h : s.presc = none) (n : Nat) :
    (clockCycles n s).presc = none ∧ (clockCycles n s).os = s.os ∧ (clockCycles n s).txd = s.txd := by
  induction n generalizing s with
  | zero => exact ⟨h, rfl, rfl⟩
  | succ n ih =>
    obtain ⟨hpresc, hos, htxd⟩ := clockCycle_divider_of_none h
    obtain ⟨hpresc', hos', htxd'⟩ := ih hpresc
    exact ⟨hpresc', hos'.trans hos, htxd'.trans htxd⟩

/-- `c` cycles after a reload, OS has moved by the whole periods of E + 1 and PRESC is in the last one (R66, R67). -/
theorem clockCycles_divider (hq : s.divq = some q) (hp : s.presc = some p)
    (hle : p.toNat ≤ (effectiveDivisor q).toNat) (n : Nat) {c : Nat}
    (hc : c = n + ((effectiveDivisor q).toNat - p.toNat)) :
    (clockCycles n s).os = s.os + BitVec.ofNat 4 (c / ((effectiveDivisor q).toNat + 1)) ∧
    ∃ r, (clockCycles n s).presc = some r ∧
      r.toNat = (effectiveDivisor q).toNat - c % ((effectiveDivisor q).toNat + 1) := by
  induction n generalizing s p c with
  | zero =>
    have hlt : c < (effectiveDivisor q).toNat + 1 := by omega
    rw [Nat.div_eq_of_lt hlt, Nat.mod_eq_of_lt hlt]
    exact ⟨(BitVec.add_zero _).symm, p, hp, by omega⟩
  | succ n ih =>
    have hq' : (clockCycle s).divq = some q := by rw [clockCycle_divq, hq]
    by_cases hzero : p = 0#12
    · subst hzero
      obtain ⟨hpresc, hos⟩ := clockCycle_divider_of_zero hq hp
      obtain ⟨hos', hpresc'⟩ := ih hq' hpresc le_rfl (c := n) (by omega)
      have hperiod : c = n + ((effectiveDivisor q).toNat + 1) := by
        rw [hc, BitVec.toNat_ofNat]
        omega
      rw [hperiod, Nat.add_div_right _ (Nat.succ_pos _), Nat.add_mod_right]
      refine ⟨?_, hpresc'⟩
      calc (clockCycles n (clockCycle s)).os
          = s.os + 1#4 + BitVec.ofNat 4 (n / ((effectiveDivisor q).toNat + 1)) := by rw [hos', hos]
        _ = s.os + BitVec.ofNat 4 (n / ((effectiveDivisor q).toNat + 1) + 1) := by
          rw [BitVec.ofNat_add, BitVec.add_assoc, BitVec.add_comm 1#4]
    · obtain ⟨hpresc, hos⟩ := clockCycle_divider_of_ne_zero hp hzero
      have hpred := toNat_pred hzero
      obtain ⟨hos', hpresc'⟩ := ih hq' hpresc (by omega) (c := c) (by omega)
      exact ⟨by rw [← hos]; exact hos', hpresc'⟩

/-- The divider reads and writes only its own three cells (R69). -/
theorem clockCycles_divider_congr {s' : State} (hq : s'.divq = s.divq) (hp : s'.presc = s.presc) (ho : s'.os = s.os)
    (n : Nat) : (clockCycles n s').presc = (clockCycles n s).presc ∧ (clockCycles n s').os = (clockCycles n s).os := by
  induction n generalizing s s' with
  | zero => exact ⟨hp, ho⟩
  | succ n ih =>
    have hphase : (prescalerPhase s').1.presc = (prescalerPhase s).1.presc ∧
        (prescalerPhase s').2 = (prescalerPhase s).2 := by
      unfold prescalerPhase
      rw [hp, hq]
      cases s.presc with
      | none => exact ⟨hp, rfl⟩
      | some p => by_cases hzero : p = 0#12 <;> simp [hzero]
    obtain ⟨hpresc, htick⟩ := hphase
    refine ih (by simpa using hq) (by simpa using hpresc) ?_
    rw [clockCycle_os, clockCycle_os, htick]
    cases (prescalerPhase s).2 <;> simp [oversamplePhase, ho]

/-! A divisor once committed stays (R69): only a DIVL write touches DIVQ, and it commits a value. -/

theorem exec_divq_isSome {i : Instr} (h : exec i s = .next t) (hq : s.divq ≠ none) : t.divq ≠ none := by
  obtain ⟨-, ⟨v, rfl, -⟩ | ⟨d, -, rfl⟩ | ⟨d, -, rfl⟩ | ⟨d, -, -, -, rfl⟩ | ⟨d, -, -, rfl⟩ |
    ⟨d, -, -, -, -, -, rfl⟩⟩ := exec_cases h
  case inr.inr.inl => obtain ⟨-, e⟩ | ⟨v, -, e⟩ := commitDivisor_cases s.garbleIfBusy d <;> simp [e, hq]
  all_goals exact hq

theorem hostStep_divq_isSome (h : hostStep s = .next t) (hq : s.divq ≠ none) : t.divq ≠ none := by
  obtain ⟨i, u, e, rfl | rfl⟩ | rfl | rfl | ⟨n, rfl⟩ | ⟨n, rfl⟩ := hostStep_cases h
  case inl.inl => exact exec_divq_isSome e hq
  case inl.inr => simpa using exec_divq_isSome e hq
  all_goals exact hq

theorem step_divq_isSome (h : step s = .next t) (hq : s.divq ≠ none) : t.divq ≠ none := by
  obtain ⟨-, ⟨-, u, hu, rfl⟩ | ⟨-, rfl⟩ | ⟨-, rfl⟩⟩ := step_cases h
  · simpa using hostStep_divq_isSome hu hq
  · simpa using hq
  · exact hq

/-- PRESC holds a value exactly where DIVQ does (R68). -/
theorem presc_eq_none_iff (hs : MachineInv s) : s.presc = none ↔ s.divq = none := by
  rw [← Option.isNone_iff_eq_none, ← Option.isNone_iff_eq_none, ← Option.not_isSome, ← Option.not_isSome,
    hs.prescWithDivq]

/-! A cycle reads of CTRL only TXEN, and ENV's inputs not at all (R13, R22, R56). -/

/-- `s` with another byte in CTRL and other inputs from ENV. -/
def State.withControls (s : State) (c : Byte) (x : Bool) (d : Byte) : State :=
  { s with ctrl := c, rxc := x, rxdata := d }

theorem prescalerPhase_withControls (s : State) (c : Byte) (x : Bool) (d : Byte) :
    prescalerPhase (s.withControls c x d) = ((prescalerPhase s).1.withControls c x d, (prescalerPhase s).2) := by
  obtain ⟨hp, e⟩ | ⟨hp, e⟩ | ⟨p, hp, hne, e⟩ := prescalerPhase_cases s <;> rw [e]
  · exact prescalerPhase_of_none hp
  · exact prescalerPhase_of_zero hp
  · exact prescalerPhase_of_ne_zero hp hne

theorem oversamplePhase_withControls (b : Bool) (s : State) (c : Byte) (x : Bool) (d : Byte) :
    oversamplePhase b (s.withControls c x d) =
      ((oversamplePhase b s).1.withControls c x d, (oversamplePhase b s).2) := by
  cases b <;> rfl

theorem shiftPhase_withControls (b : Bool) (s : State) (c : Byte) (x : Bool) (d : Byte) :
    shiftPhase b (s.withControls c x d) = (shiftPhase b s).withControls c x d := by
  obtain ⟨rfl, e⟩ | ⟨rfl, hq, e⟩ | ⟨rfl, y, rest, hq, e⟩ := shiftPhase_cases b s <;> rw [e]
  · rfl
  · exact shiftPhase_true_of_nil hq
  · exact shiftPhase_true_of_cons hq

theorem loadPhase_withControls {c : Byte} (hc : c.getLsbD 3 = s.txen) (x : Bool) (d : Byte) :
    loadPhase (s.withControls c x d) = (loadPhase s).withControls c x d := by
  have hen : (s.withControls c x d).txen = s.txen := hc
  by_cases hready : s.txen = true ∧ s.txbFull = true ∧ s.tsrQ = []
  · have hready' : (s.withControls c x d).txen = true ∧ (s.withControls c x d).txbFull = true ∧
        (s.withControls c x d).tsrQ = [] := by rwa [hen]
    rw [loadPhase, if_pos hready', loadPhase, if_pos hready]
    cases hb : s.txb <;> cases hf : s.frame <;> simp [State.withControls, hb, hf]
  · rw [loadPhase_of_not_ready hready, loadPhase_of_not_ready (fun h => hready (by rwa [hen] at h))]

theorem garblePhase_withControls (s : State) (c : Byte) (x : Bool) (d : Byte) :
    garblePhase (s.withControls c x d) = (garblePhase s).withControls c x d := by
  have hidle : (s.withControls c x d).txIdle = s.txIdle := rfl
  unfold garblePhase
  rw [hidle]
  cases s.txIdle <;> rfl

theorem clockCycle_withControls {c : Byte} (hc : c.getLsbD 3 = s.txen) (x : Bool) (d : Byte) :
    clockCycle (s.withControls c x d) = (clockCycle s).withControls c x d := by
  simp only [clockCycle, prescalerPhase_withControls, oversamplePhase_withControls, shiftPhase_withControls]
  rw [loadPhase_withControls (by simpa [State.txen] using hc), garblePhase_withControls]
  rfl

theorem clockCycles_withControls {c : Byte} (hc : c.getLsbD 3 = s.txen) (x : Bool) (d : Byte) (n : Nat) :
    clockCycles n (s.withControls c x d) = (clockCycles n s).withControls c x d := by
  induction n generalizing s with
  | zero => rfl
  | succ n ih =>
    rw [clockCycles, clockCycle_withControls hc, ih (by rwa [clockCycle_txen])]
    rfl

/-- What `n` cycles leave in CTRL and in the inputs. -/
theorem clockCycles_controls (s : State) (n : Nat) :
    (clockCycles n s).ctrl = s.ctrl ∧ (clockCycles n s).rxc = s.rxc ∧ (clockCycles n s).rxdata = s.rxdata := by
  induction n generalizing s with
  | zero => exact ⟨rfl, rfl, rfl⟩
  | succ n ih =>
    rw [clockCycles]
    simpa using ih (clockCycle s)

end Sys2Proof.Machine

/-! ## The obligations of 41_baud_divider.md, and those on what the cycle does not read -/

namespace Sys2Proof.Proofs

open Sys2Proof.Machine Sys2Proof.Safety

/-- Settles O39, by the quotient F_CLK / (16 BAUD): in range, in 16 bits, 0, or out of range. -/
theorem divisorFormula : Obligations.DivisorFormula := by
  intro f b _ hb
  refine ⟨Nat.div_div_eq_div_mul f 16 b, fun hin => ?_, fun hle hmax => ?_, fun hlt => ?_, fun hout => ?_⟩
  · obtain ⟨hk, hmax⟩ := (divisorInRange_eq_true hb).1 hin
    have hstored : (divisorOf f b).toNat + 1 = f / (16 * b) := storedDivisor_pred_toNat hk (by omega)
    exact ⟨hstored, by rw [effectiveDivisor_of_le (by omega), hstored]⟩
  · exact storedDivisor_pred_toNat ((quotient_pos_iff hb).2 hle) hmax
  · rw [divisorOf, formulaResult, Nat.div_eq_of_lt hlt, storedDivisor_neg_one]
  · have hk : f / (16 * b) = 0 ∨ 0x1000 < f / (16 * b) := (Nat.eq_zero_or_pos _).imp_right fun hk => by
      by_contra hmax
      simp [(divisorInRange_eq_true hb).2 ⟨hk, not_lt.1 hmax⟩] at hout
    have hgt : 0x0FFF < (divisorOf f b).toNat := storedDivisor_out_of_range hk
    exact ⟨hgt, effectiveDivisor_of_gt hgt⟩

/-- Settles O40, by induction on the cycles. -/
theorem dividerAfterCycles : Obligations.DividerAfterCycles :=
  fun _ _ _ n hq hp hle => clockCycles_divider hq hp hle n rfl

/-- Settles O41: the invariant gives PRESC = ⊥, and then no cycle ticks. -/
theorem dividerStopsWithoutDivisor : Obligations.DividerStopsWithoutDivisor := by
  intro s n hs hq
  have hp : s.presc = none := (presc_eq_none_iff hs).2 hq
  obtain ⟨hpresc, hos, htxd⟩ := clockCycles_divider_of_none hp n
  exact ⟨hp, hpresc, hos, by rw [prescalerPhase_of_none hp]; rfl, htxd⟩

/-- Settles O42: a step keeps DIVQ and the invariant, so PRESC too; the divider's cells follow from themselves. -/
theorem dividerNeverStopsAgain : Obligations.DividerNeverStopsAgain := by
  refine ⟨fun s t hs h hq => ?_, fun s s' n hq hp ho => clockCycles_divider_congr hq hp ho n⟩
  have hq' : t.divq ≠ none := step_divq_isSome h hq
  exact ⟨hq', fun hp => hq' ((presc_eq_none_iff (stepKeepsInvariant s t hs h)).1 hp)⟩

/-- Settles O47: the cycles keep the difference in CTRL, and ENV's inputs are as they were. -/
theorem rxenHasNoTransmitEffect : Obligations.RxenHasNoTransmitEffect := by
  intro s c n hc
  obtain ⟨-, hrxc, hrxdata⟩ := clockCycles_controls s n
  calc clockCycles n { s with ctrl := c } = (clockCycles n s).withControls c s.rxc s.rxdata :=
        clockCycles_withControls hc s.rxc s.rxdata n
    _ = { clockCycles n s with ctrl := c } := by rw [← hrxc, ← hrxdata]; rfl

/-- Settles O48: the cycles keep the difference in ENV's inputs, and CTRL is as it was. -/
theorem inputsHaveNoTransmitEffect : Obligations.InputsHaveNoTransmitEffect := by
  intro s x d n
  obtain ⟨hctrl, -, -⟩ := clockCycles_controls s n
  calc clockCycles n { s with rxc := x, rxdata := d } = (clockCycles n s).withControls s.ctrl x d :=
        clockCycles_withControls rfl x d n
    _ = { clockCycles n s with rxc := x, rxdata := d } := by rw [← hctrl]; rfl

end Sys2Proof.Proofs

/-! # The transmitter in time (spec/42_transmit_shift.md section 3, spec/70_reset_and_hazards.md R105, R107) -/

/-! ## One cycle of the transmitter, by its bit tick -/

namespace Sys2Proof.Machine

open Sys2Proof.Safety

variable {s u : State}

/-- The cycle that starts in `s` is a bit tick (R67). -/
def State.bitTick (s : State) : Bool := (oversamplePhase (prescalerPhase s).2 (prescalerPhase s).1).2

/-- `s` after phases 1 to 3 of its cycle; phases 4 and 5 and WAIT's countdown are left (R65). -/
def State.shifted (s : State) : State :=
  shiftPhase s.bitTick (oversamplePhase (prescalerPhase s).2 (prescalerPhase s).1).1

theorem clockCycle_eq_shifted (s : State) : clockCycle s = (garblePhase (loadPhase s.shifted)).countWait := rfl

@[simp] theorem State.shifted_txbFull (s : State) : s.shifted.txbFull = s.txbFull := by simp [State.shifted]
@[simp] theorem State.shifted_txb (s : State) : s.shifted.txb = s.txb := by simp [State.shifted]
@[simp] theorem State.shifted_frame (s : State) : s.shifted.frame = s.frame := by simp [State.shifted]
@[simp] theorem State.shifted_txen (s : State) : s.shifted.txen = s.txen := by simp [State.shifted, State.txen]

theorem State.shifted_of_no_tick (h : s.bitTick = false) :
    s.shifted.tsrQ = s.tsrQ ∧ s.shifted.tsrActive = s.tsrActive ∧ s.shifted.txd = s.txd := by
  rw [State.shifted, h]
  simp [shiftPhase]

theorem State.shifted_of_tick_cons {x : Bool} {rest : List Bool} (h : s.bitTick = true) (hq : s.tsrQ = x :: rest) :
    s.shifted.tsrQ = rest ∧ s.shifted.tsrActive = true ∧ (s.garble = false → s.shifted.txd = x) := by
  rw [State.shifted, h, shiftPhase_true_of_cons (x := x) (rest := rest) (by simpa using hq)]
  exact ⟨rfl, rfl, fun hg => State.lineValue_of_clean (by simpa using hg) x⟩

theorem State.shifted_of_tick_nil (h : s.bitTick = true) (hq : s.tsrQ = []) :
    s.shifted.tsrQ = [] ∧ s.shifted.tsrActive = false ∧ s.shifted.txd = true := by
  rw [State.shifted, h, shiftPhase_true_of_nil (by simpa using hq)]
  exact ⟨by simpa using hq, rfl, rfl⟩

theorem State.shifted_tsrQ_of_nil (hq : s.tsrQ = []) : s.shifted.tsrQ = [] := by
  cases h : s.bitTick
  · rw [(State.shifted_of_no_tick h).1, hq]
  · exact (State.shifted_of_tick_nil h hq).1

/-- The line is as phase 3 leaves it. -/
theorem clockCycle_line (s : State) :
    (clockCycle s).txd = s.shifted.txd ∧ (clockCycle s).tsrActive = s.shifted.tsrActive := by
  simp [clockCycle_eq_shifted]

/-- With no byte in the buffer, or bits left to drive, phase 4 loads nothing (R73). -/
theorem clockCycle_of_no_load (h : s.txbFull = false ∨ s.shifted.tsrQ ≠ []) :
    (clockCycle s).txbFull = s.txbFull ∧ (clockCycle s).tsrQ = s.shifted.tsrQ := by
  have hload : loadPhase s.shifted = s.shifted := loadPhase_of_not_ready fun ⟨_, hfull, hq⟩ =>
    h.elim (fun hempty => by simp [hempty] at hfull) fun hne => hne hq
  simp [clockCycle_eq_shifted, hload]

/-- With a byte in the buffer and no bit left to drive, phase 4 loads the byte's frame (R73, R76). -/
theorem clockCycle_loads (hs : MachineInv s) (hfull : s.txbFull = true) (hq : s.shifted.tsrQ = []) :
    ∃ b f, s.txb = some b ∧ s.frame = some f ∧ (clockCycle s).tsrQ = frameBits b f ∧
      (clockCycle s).txbFull = false := by
  obtain ⟨b, f, hb, hf⟩ := txb_frame_of_full hs hfull
  have hon : s.txen = true := Bool.eq_true_of_not_eq_false fun hoff => by
    simpa [txIdle_of_full hfull] using hs.disabledIdle hoff
  have hload : loadPhase s.shifted = { s.shifted with tsrQ := frameBits b f, txbFull := false } :=
    loadPhase_loads (by simpa using hon) (by simpa using hfull) hq (by simpa using hb) (by simpa using hf)
  exact ⟨b, f, hb, hf, by simp [clockCycle_eq_shifted, hload]⟩

theorem clockCycle_clean (h : s.garble = false) : (clockCycle s).garble = false := by
  have hshifted : s.shifted.garble = false := by simpa [State.shifted] using h
  obtain ⟨-, e⟩ | ⟨-, e⟩ := garblePhase_cases (loadPhase s.shifted) <;> simp [clockCycle_eq_shifted, e, hshifted]

/-- The transmitter's buffer flag, bits and line are the same in `u` as in `s`. -/
def SameTransmit (s u : State) : Prop :=
  u.txbFull = s.txbFull ∧ u.tsrQ = s.tsrQ ∧ u.tsrActive = s.tsrActive ∧ u.txd = s.txd

/-- Without a bit tick or a load the transmitter stays as it is. -/
theorem clockCycle_sameTransmit (htick : s.bitTick = false) (h : s.txbFull = false ∨ s.tsrQ ≠ []) :
    SameTransmit s (clockCycle s) := by
  obtain ⟨hq, hactive, htxd⟩ := State.shifted_of_no_tick htick
  obtain ⟨hfull', hq'⟩ := clockCycle_of_no_load (by rwa [hq])
  obtain ⟨htxd', hactive'⟩ := clockCycle_line s
  exact ⟨hfull', hq'.trans hq, hactive'.trans hactive, htxd'.trans htxd⟩

/-- An idle transmitter with its line at mark stays so (R75). -/
theorem clockCycle_idle_at_mark (h : s.txIdle = true ∧ s.txd = true) :
    (clockCycle s).txIdle = true ∧ (clockCycle s).txd = true := by
  obtain ⟨hidle, htxd⟩ := h
  obtain ⟨-, hq, -⟩ := txIdle_eq_true.1 hidle
  refine ⟨clockCycle_txIdle_of_idle hidle, (clockCycle_line s).1.trans ?_⟩
  cases htick : s.bitTick with
  | false => exact (State.shifted_of_no_tick htick).2.2.trans htxd
  | true => exact (State.shifted_of_tick_nil htick hq).2.2

/-! What holds over any number of cycles. -/

theorem clockCycles_succ (n : Nat) (s : State) : clockCycles (n + 1) s = clockCycle (clockCycles n s) :=
  clockCycles_add n 1 s

theorem clockCycles_keeps_inv (hs : MachineInv s) (n : Nat) : MachineInv (clockCycles n s) := by
  induction n with
  | zero => exact hs
  | succ n ih => rw [clockCycles_succ]; exact clockCycle_keeps_inv ih

theorem clockCycles_clean (h : s.garble = false) (n : Nat) : (clockCycles n s).garble = false := by
  induction n with
  | zero => exact h
  | succ n ih => rw [clockCycles_succ]; exact clockCycle_clean ih

theorem clockCycles_idle_at_mark (h : s.txIdle = true ∧ s.txd = true) (n : Nat) :
    (clockCycles n s).txIdle = true ∧ (clockCycles n s).txd = true := by
  induction n with
  | zero => exact h
  | succ n ih => rw [clockCycles_succ]; exact clockCycle_idle_at_mark ih

end Sys2Proof.Machine

/-! ## The time of the next bit tick -/

namespace Sys2Proof.Machine

open Sys2Proof.Safety

variable {s : State} {d : Divisor} {n j : Nat}

/-- The divider of `s` runs with divisor `d`, and its next bit tick is in the `n`-th cycle from `s` (R66, R67). -/
def BitTickIn (d : Divisor) (n : Nat) (s : State) : Prop :=
  s.divq = some d ∧ ∃ p, s.presc = some p ∧ p.toNat ≤ (effectiveDivisor d).toNat ∧
    n = cyclesToBitTick (effectiveDivisor d) p s.os

theorem bitTickIn_of_inv (hs : MachineInv s) (hq : s.divq = some d) : ∃ n, BitTickIn d n s := by
  obtain ⟨p, hp⟩ : ∃ p, s.presc = some p := by
    rw [← Option.isSome_iff_exists, hs.prescWithDivq, hq]
    rfl
  exact ⟨_, hq, p, hp, hs.prescBound d p hq hp, rfl⟩

theorem BitTickIn.pos (h : BitTickIn d n s) : 1 ≤ n := by
  obtain ⟨-, p, -, -, rfl⟩ := h
  exact Nat.le_add_left _ _

theorem BitTickIn.le_bitTime (h : BitTickIn d n s) : n ≤ bitTime (effectiveDivisor d) := by
  obtain ⟨-, p, -, hle, rfl⟩ := h
  have hperiods : (15 - s.os.toNat) * ((effectiveDivisor d).toNat + 1) ≤ 15 * ((effectiveDivisor d).toNat + 1) :=
    Nat.mul_le_mul_right _ (Nat.sub_le _ _)
  rw [cyclesToBitTick, bitTime, Config.oversample]
  omega

/-- The tick is due in this very cycle only at PRESC = 0 and OS = 15. -/
theorem cyclesToBitTick_eq_one {e p : EffDivisor} {o : BitVec 4} (h : cyclesToBitTick e p o = 1) :
    p = 0#12 ∧ o = 15#4 := by
  rw [cyclesToBitTick] at h
  have hperiods : (15 - o.toNat) * (e.toNat + 1) = 0 := by omega
  have ho : 15 - o.toNat = 0 := (Nat.mul_eq_zero.1 hperiods).resolve_right (Nat.succ_ne_zero _)
  exact ⟨BitVec.eq_of_toNat_eq (show p.toNat = 0 by omega), BitVec.eq_of_toNat_eq (show o.toNat = 15 by omega)⟩

/-- A cycle with the tick due in it ticks, and the next tick is one bit time later. -/
theorem BitTickIn.tick (h : BitTickIn d 1 s) :
    s.bitTick = true ∧ BitTickIn d (bitTime (effectiveDivisor d)) (clockCycle s) := by
  obtain ⟨hq, p, hp, hle, hn⟩ := h
  obtain ⟨rfl, hos⟩ := cyclesToBitTick_eq_one hn.symm
  obtain ⟨hpresc, hos'⟩ := clockCycle_divider_of_zero hq hp
  refine ⟨?_, by rw [clockCycle_divq, hq], _, hpresc, le_rfl, ?_⟩
  · rw [State.bitTick, prescalerPhase_of_zero hp]
    simp [oversamplePhase, hos]
  · rw [hos', hos, bitTime, cyclesToBitTick, Config.oversample]
    simp
    omega

/-- A cycle before the one with the tick does not tick, and brings the tick one cycle nearer. -/
theorem BitTickIn.wait (h : BitTickIn d (n + 2) s) : s.bitTick = false ∧ BitTickIn d (n + 1) (clockCycle s) := by
  obtain ⟨hq, p, hp, hle, hn⟩ := h
  have hq' : (clockCycle s).divq = some d := by rw [clockCycle_divq, hq]
  by_cases hzero : p = 0#12
  · subst hzero
    obtain ⟨hpresc, hos'⟩ := clockCycle_divider_of_zero hq hp
    rw [cyclesToBitTick, BitVec.toNat_ofNat] at hn
    have hos : s.os.toNat < 15 := by
      by_contra hlast
      rw [show 15 - s.os.toNat = 0 by omega] at hn
      omega
    have hnext : (s.os + 1#4).toNat = s.os.toNat + 1 := by bv_omega
    refine ⟨?_, hq', _, hpresc, le_rfl, ?_⟩
    · rw [State.bitTick, prescalerPhase_of_zero hp]
      exact decide_eq_false fun hwrap => by simp [hwrap] at hnext
    · rw [show 15 - s.os.toNat = 15 - (s.os.toNat + 1) + 1 by omega, Nat.add_one_mul] at hn
      rw [hos', cyclesToBitTick, hnext]
      omega
  · obtain ⟨hpresc, hos'⟩ := clockCycle_divider_of_ne_zero hp hzero
    have hpred := toNat_pred hzero
    refine ⟨by rw [State.bitTick, prescalerPhase_of_ne_zero hp hzero]; rfl, hq', _, hpresc, by omega, ?_⟩
    rw [cyclesToBitTick] at hn
    rw [hos', cyclesToBitTick]
    omega

/-- Up to the next tick the transmitter stays as it is, where nothing loads. -/
theorem BitTickIn.unchanged_before (h : BitTickIn d n s) (hload : s.txbFull = false ∨ s.tsrQ ≠ []) (hj : j < n) :
    BitTickIn d (n - j) (clockCycles j s) ∧ SameTransmit s (clockCycles j s) := by
  induction j with
  | zero => exact ⟨h, rfl, rfl, rfl, rfl⟩
  | succ j ih =>
    obtain ⟨hin, hfull, hq, hactive, htxd⟩ := ih (by omega)
    obtain ⟨m, hm⟩ : ∃ m, n - j = m + 2 := ⟨n - j - 2, by omega⟩
    rw [hm] at hin
    obtain ⟨htick, hin'⟩ := hin.wait
    obtain ⟨hfull', hq', hactive', htxd'⟩ := clockCycle_sameTransmit htick (by rwa [hfull, hq])
    rw [clockCycles_succ, show n - (j + 1) = m + 1 by omega]
    exact ⟨hin', hfull'.trans hfull, hq'.trans hq, hactive'.trans hactive, htxd'.trans htxd⟩

/-- The `n`-th cycle is the bit tick, from a state with the transmitter of `s`. -/
theorem BitTickIn.exists_tick (h : BitTickIn d n s) (hload : s.txbFull = false ∨ s.tsrQ ≠ []) :
    ∃ m, n = m + 1 ∧ (clockCycles m s).bitTick = true ∧ SameTransmit s (clockCycles m s) ∧
      BitTickIn d (bitTime (effectiveDivisor d)) (clockCycles n s) := by
  obtain ⟨m, rfl⟩ : ∃ m, n = m + 1 := Nat.exists_eq_add_of_le' h.pos
  obtain ⟨hin, hsame⟩ := h.unchanged_before hload (Nat.lt_succ_self m)
  rw [Nat.add_sub_cancel_left] at hin
  obtain ⟨htick, hin'⟩ := hin.tick
  exact ⟨m, rfl, htick, hsame, by rwa [clockCycles_succ]⟩

/-- The tick drives the next bit; where the buffer waits, another bit must be left, or it loads. -/
theorem BitTickIn.drives {x : Bool} {rest : List Bool} (h : BitTickIn d n s) (hq : s.tsrQ = x :: rest)
    (hload : s.txbFull = false ∨ rest ≠ []) :
    BitTickIn d (bitTime (effectiveDivisor d)) (clockCycles n s) ∧
    (clockCycles n s).txbFull = s.txbFull ∧ (clockCycles n s).tsrQ = rest ∧
    (s.garble = false → (clockCycles n s).txd = x) := by
  obtain ⟨m, rfl, htick, ⟨hfull, hq', -, -⟩, hin⟩ := h.exists_tick (.inr (by simp [hq]))
  obtain ⟨hshift, -, hline⟩ := State.shifted_of_tick_cons htick (hq'.trans hq)
  obtain ⟨hfull', hq''⟩ := clockCycle_of_no_load (by rwa [hfull, hshift])
  rw [clockCycles_succ]
  refine ⟨by rwa [← clockCycles_succ], hfull'.trans hfull, hq''.trans hshift, fun hg => ?_⟩
  exact (clockCycle_line _).1.trans (hline (clockCycles_clean hg m))

/-- The tick after the last bit, with an empty buffer, returns the line to mark, and the transmitter is idle. -/
theorem BitTickIn.ends (h : BitTickIn d n s) (hq : s.tsrQ = []) (hempty : s.txbFull = false) :
    (clockCycles n s).txIdle = true ∧ (clockCycles n s).txd = true := by
  obtain ⟨m, rfl, htick, ⟨hfull, hq', -, -⟩, -⟩ := h.exists_tick (.inl hempty)
  obtain ⟨hshift, hactive, htxd⟩ := State.shifted_of_tick_nil htick (hq'.trans hq)
  obtain ⟨hfull', hq''⟩ := clockCycle_of_no_load (.inl (hfull.trans hempty))
  obtain ⟨htxd', hactive'⟩ := clockCycle_line (clockCycles m s)
  rw [clockCycles_succ]
  exact ⟨txIdle_eq_true.2 ⟨hfull'.trans (hfull.trans hempty), hq''.trans hshift, hactive'.trans hactive⟩,
    htxd'.trans htxd⟩

/-! ## The bits that wait, one bit time each -/

/-- With an empty buffer the bits that wait go out one per bit time, and then the transmitter is idle (R77, R105). -/
theorem BitTickIn.drains (h : BitTickIn d n s) (hempty : s.txbFull = false) {q : List Bool} (hq : s.tsrQ = q) :
    (clockCycles (n + q.length * bitTime (effectiveDivisor d)) s).txIdle = true ∧
    (clockCycles (n + q.length * bitTime (effectiveDivisor d)) s).txd = true := by
  induction q generalizing n s with
  | nil => simpa using h.ends hq hempty
  | cons x rest ih =>
    obtain ⟨hin, hfull, hrest, -⟩ := h.drives hq (.inl hempty)
    rw [List.length_cons, Nat.add_one_mul, Nat.add_comm (rest.length * _), clockCycles_add]
    exact ih hin (hfull.trans hempty) hrest

/-- Bit `k` of those that wait is on the line for the whole of its bit time (R77). -/
theorem BitTickIn.txd_of_bit (h : BitTickIn d n s) (hempty : s.txbFull = false) (hg : s.garble = false)
    {q : List Bool} (hq : s.tsrQ = q) {k : Nat} {x : Bool} (hx : q[k]? = some x)
    (hj : j < bitTime (effectiveDivisor d)) :
    (clockCycles (n + k * bitTime (effectiveDivisor d) + j) s).txd = x := by
  induction k generalizing n s q with
  | zero =>
    cases q with
    | nil => cases hx
    | cons y rest =>
      obtain rfl : y = x := by simpa using hx
      obtain ⟨hin, hfull, -, htxd⟩ := h.drives hq (.inl hempty)
      obtain ⟨-, -, -, -, hhold⟩ := hin.unchanged_before (.inl (hfull.trans hempty)) hj
      rw [Nat.zero_mul, Nat.add_zero, clockCycles_add]
      exact hhold.trans (htxd hg)
  | succ k ih =>
    cases q with
    | nil => cases hx
    | cons y rest =>
      obtain ⟨hin, hfull, hrest, -⟩ := h.drives hq (.inl hempty)
      have hrec := ih hin (hfull.trans hempty) (clockCycles_clean hg n) hrest (by simpa using hx)
      rwa [← clockCycles_add, show n + (bitTime (effectiveDivisor d) + k * bitTime (effectiveDivisor d) + j) =
        n + (k + 1) * bitTime (effectiveDivisor d) + j by rw [Nat.add_one_mul]; omega] at hrec

/-- A full buffer empties when the last bit that waits is driven, or in the next cycle where none waits (R76, R79). -/
theorem BitTickIn.empties (h : BitTickIn d n s) (hs : MachineInv s) (hfull : s.txbFull = true) {q : List Bool}
    (hq : s.tsrQ = q) :
    ∃ m, m ≤ n + (q.length - 1) * bitTime (effectiveDivisor d) ∧ (clockCycles m s).txbFull = false := by
  induction q generalizing n s with
  | nil =>
    obtain ⟨b, f, -, -, -, hempty⟩ := clockCycle_loads hs hfull (State.shifted_tsrQ_of_nil hq)
    exact ⟨1, by have := h.pos; omega, hempty⟩
  | cons x rest ih =>
    cases rest with
    | nil =>
      obtain ⟨m, rfl, htick, ⟨hfull', hq', -, -⟩, -⟩ := h.exists_tick (.inr (by simp [hq]))
      obtain ⟨hshift, -, -⟩ := State.shifted_of_tick_cons htick (hq'.trans hq)
      obtain ⟨b, f, -, -, -, hempty⟩ := clockCycle_loads (clockCycles_keeps_inv hs m) (hfull'.trans hfull) hshift
      exact ⟨m + 1, by simp, by rwa [clockCycles_succ]⟩
    | cons y rest =>
      obtain ⟨hin, hfull', hrest, -⟩ := h.drives hq (.inr (by simp))
      obtain ⟨m, hm, hempty⟩ := ih hin (clockCycles_keeps_inv hs n) (hfull'.trans hfull) hrest
      refine ⟨n + m, ?_, by rwa [clockCycles_add]⟩
      simp only [List.length_cons, Nat.add_sub_cancel, Nat.add_one_mul] at hm ⊢
      omega

end Sys2Proof.Machine

/-! ## The obligations of 42_transmit_shift.md section 3 and 70_reset_and_hazards.md section 3 -/

namespace Sys2Proof.Proofs

open Sys2Proof.Machine Sys2Proof.Safety

/-- Settles O49: the time of the first tick, the line until then, each bit in its bit time, and the idle line after. -/
theorem waitingBitsGoOutInTime : Obligations.WaitingBitsGoOutInTime := by
  intro s d p q hd hp hle hg hempty hq hne
  have hin : BitTickIn d (cyclesToBitTick (effectiveDivisor d) p s.os) s := ⟨hd, p, hp, hle, rfl⟩
  refine ⟨hin.pos, hin.le_bitTime, fun j hj => ?_, fun k j x hx hj => hin.txd_of_bit hempty hg hq hx hj, fun j => ?_⟩
  · obtain ⟨-, -, -, -, htxd⟩ := hin.unchanged_before (.inl hempty) hj
    exact htxd
  · rw [clockCycles_add]
    exact (clockCycles_idle_at_mark (hin.drains hempty hq) j).symm

/-- Settles O50: with no bit in TSR_Q the cycle loads, tick or no tick. -/
theorem emptyShiftRegisterLoadsNextCycle : Obligations.EmptyShiftRegisterLoadsNextCycle := by
  intro s hs hfull hq
  obtain ⟨b, f, hb, hf, hload, hempty⟩ := clockCycle_loads hs hfull (State.shifted_tsrQ_of_nil hq)
  exact ⟨b, f, hb, hf, hload, hempty, by rw [State.udre, hempty]; rfl⟩

/-- Settles O51: the tick drives the last bit in phase 3, and phase 4 then finds TSR_Q empty. -/
theorem lastBitTickLoadsNextFrame : Obligations.LastBitTickLoadsNextFrame := by
  intro s x hs hfull hq hg htick
  obtain ⟨hshift, hactive, htxd⟩ := State.shifted_of_tick_cons htick hq
  obtain ⟨b, f, hb, hf, hload, hempty⟩ := clockCycle_loads hs hfull hshift
  obtain ⟨htxd', hactive'⟩ := clockCycle_line s
  refine ⟨b, f, hb, hf, htxd'.trans (htxd hg), hactive'.trans hactive, hload, hempty, ?_⟩
  simp [State.txIdle, hactive'.trans hactive]

/-- Settles O52: at most 11 bits wait, and the first tick is at most a bit time away. -/
theorem udreReturnsWithinElevenBitTimes : Obligations.UdreReturnsWithinElevenBitTimes := by
  intro s d hs hd hfull
  obtain ⟨n, hin⟩ := bitTickIn_of_inv hs hd
  obtain ⟨m, hm, hempty⟩ := hin.empties hs hfull rfl
  refine ⟨m, hm.trans ?_, hempty⟩
  calc n + (s.tsrQ.length - 1) * bitTime (effectiveDivisor d)
      ≤ bitTime (effectiveDivisor d) + 10 * bitTime (effectiveDivisor d) :=
        Nat.add_le_add hin.le_bitTime (Nat.mul_le_mul_right _ (by have := hs.shiftLength; omega))
    _ = 11 * bitTime (effectiveDivisor d) := by omega

/-- Settles O53: the last bit time ends within the bound, and an idle line at mark stays so. -/
theorem lineIdleWithinBound : Obligations.LineIdleWithinBound := by
  intro s d n hs hd hempty
  obtain ⟨c, hin⟩ := bitTickIn_of_inv hs hd
  have hidle (hn : (s.tsrQ.length + 1) * bitTime (effectiveDivisor d) ≤ n) :
      (clockCycles n s).txIdle = true ∧ (clockCycles n s).txd = true := by
    have hc : c + s.tsrQ.length * bitTime (effectiveDivisor d) ≤ n := by
      have hle := hin.le_bitTime
      rw [Nat.add_one_mul] at hn
      omega
    obtain ⟨j, rfl⟩ := Nat.exists_eq_add_of_le hc
    rw [clockCycles_add]
    exact clockCycles_idle_at_mark (hin.drains hempty rfl) j
  refine ⟨hidle, fun hn => (hidle (le_trans (Nat.mul_le_mul_right _ ?_) hn)).1⟩
  have hlen := hs.shiftLength
  omega

end Sys2Proof.Proofs
